-- ==== Sys2Proof/Word.lean ====
section
/-! DEFINITION. Word.lean: the two word types of the block (R6: data and registers are 8 bits, addresses 16). -/

namespace Sys2Proof

/-- An 8-bit data value, register or opcode byte (R6, R9). -/
abbrev Byte := BitVec 8

/-- A 16-bit Memory Port address or program counter (R6, R9). -/
abbrev Addr := BitVec 16

end Sys2Proof
end

