-- ==== Sys2Proof/Config.lean ====
section
/-! DEFINITION. Config.lean: what an implementation of the block fixes (the named parameters of R7) and the free values the
spec leaves open. The configuration is plain data that State holds and no step changes (R37), so a claim about every state
is a claim about every configuration. -/

namespace Sys2Proof

/-- A cycle cost of the opcode table: 1 to 254 and nothing else (R150, R152, D19). -/
structure Cost where
  value : Byte
  inRange : 1 ≤ value.toNat ∧ value.toNat ≤ 254
  deriving DecidableEq, Repr

/-- The order of the two reads that fetch a 16-bit pointer target (R7, R124, D6). -/
inductive PtrReadOrder where
  | loFirst
  | hiFirst
  deriving DecidableEq, Repr

/-- The base costs of one operation, one for each of the eight modes it is wired in (R153). -/
structure ModeCosts where
  imm : Cost
  zp0 : Cost
  zpx : Cost
  abs : Cost
  abx : Cost
  aby : Cost
  izx : Cost
  izy : Cost
  deriving DecidableEq, Repr

/-- The configuration of the block (R7): `BASE_CYCLES` in the fields `adc` and `sbc`, `FILL_CYCLES` in the order of R87's
list of the 105 illegal opcodes, and `PTR_READ_ORDER`. -/
structure Config where
  adc : ModeCosts
  sbc : ModeCosts
  fillCycles : Vector Cost 105
  ptrReadOrder : PtrReadOrder
  deriving DecidableEq, Repr

/-- FREE VALUE. The MemOracle's answer to a normal read, number `n` of the run, of an address that is not declared RAM:
any byte, independently on each read (R52, D8; notes/assumptions/4.md). -/
opaque Config.portByte : Nat → Addr → Byte

/-- FREE VALUE. The Memory Port's answer to hinted read number `n` of an address that is not declared RAM: any byte,
independently on each hinted read. The spec has no rule on this point (R57, D7): DESIGN CHOICE (notes/assumptions/18.md). -/
opaque Config.hintedByte : Nat → Addr → Byte

/-- FREE VALUE. What `absAddr` holds once an instruction has begun and before its resolver writes it
(R34, I2; notes/assumptions/7.md). -/
opaque Config.staleAbsAddr : Nat → Addr

/-- FREE VALUE. What `relAddr` holds once an instruction has begun and before its resolver writes it
(R34, I2; notes/assumptions/7.md). -/
opaque Config.staleRelAddr : Nat → Addr

/-- FREE VALUE. What `fetched` holds once an instruction has begun and before its operand is written
(R34, I2; notes/assumptions/7.md). -/
opaque Config.staleFetched : Nat → Byte

end Sys2Proof
end

