-- ==== Sys2Proof/Syntax.lean ====
section
/-! DEFINITION. Syntax.lean: the addressing modes, the operations and the instructions. One constructor of `Instr` for each of
the 256 rows of spec/opcode_table.json. Only the 16 wired rows have operand fields: the block reads no operand byte of any
other row (R80, R160 step 3, R221). -/

namespace Sys2Proof

/-- The twelve addressing modes (R125). -/
inductive Mode where
  | imp | imm | zp0 | zpx | zpy | rel | abs | abx | aby | ind | izx | izy
  deriving DecidableEq, Repr

/-- An operand as the formats F1, F2 and F3 carry it: the mode with its operand bytes (R81, R83). -/
inductive Operand where
  | imp
  | imm (imm8 : Byte)
  | zp0 (zp8 : Byte)
  | zpx (zp8 : Byte)
  | zpy (zp8 : Byte)
  | rel (off8 : Byte)
  | abs (lo hi : Byte)
  | abx (lo hi : Byte)
  | aby (lo hi : Byte)
  | ind (lo hi : Byte)
  | izx (zp8 : Byte)
  | izy (zp8 : Byte)
  deriving DecidableEq, Repr

/-- The operations an entry of the opcode table can run (R150): the tags ADC, SBC and FILL. -/
inductive Operation where
  | adc | sbc | fill
  deriving DecidableEq, Repr

/-- An entry of the opcode table (R150, R151). An unwired entry has no mode, no operation and no base cost. -/
inductive Entry where
  | run (mnemonic : String) (op : Operation) (mode : Mode) (base : Cost)
  | unwired (mnemonic : String)
  deriving DecidableEq, Repr

/-- The instructions, one constructor a row of the opcode table: the 16 wired rows first, then the others in the table's
order. -/
inductive Instr where
  /-- 0x61: ADC (zp,X), R196. -/
  | adcIzx (zp8 : Byte)
  /-- 0x65: ADC zp, R191. -/
  | adcZp0 (zp8 : Byte)
  /-- 0x69: ADC #imm, R190. -/
  | adcImm (imm8 : Byte)
  /-- 0x6D: ADC abs, R193. -/
  | adcAbs (lo hi : Byte)
  /-- 0x71: ADC (zp),Y, R197. -/
  | adcIzy (zp8 : Byte)
  /-- 0x75: ADC zp,X, R192. -/
  | adcZpx (zp8 : Byte)
  /-- 0x79: ADC abs,Y, R195. -/
  | adcAby (lo hi : Byte)
  /-- 0x7D: ADC abs,X, R194. -/
  | adcAbx (lo hi : Byte)
  /-- 0xE1: SBC (zp,X), R206. -/
  | sbcIzx (zp8 : Byte)
  /-- 0xE5: SBC zp, R201. -/
  | sbcZp0 (zp8 : Byte)
  /-- 0xE9: SBC #imm, R200. -/
  | sbcImm (imm8 : Byte)
  /-- 0xED: SBC abs, R203. -/
  | sbcAbs (lo hi : Byte)
  /-- 0xF1: SBC (zp),Y, R207. -/
  | sbcIzy (zp8 : Byte)
  /-- 0xF5: SBC zp,X, R202. -/
  | sbcZpx (zp8 : Byte)
  /-- 0xF9: SBC abs,Y, R205. -/
  | sbcAby (lo hi : Byte)
  /-- 0xFD: SBC abs,X, R204. -/
  | sbcAbx (lo hi : Byte)
  /-- 0x00: BRK, unwired, R222. -/
  | brk
  /-- 0x01: ORA (zp,X), unwired, R222. -/
  | oraIzx
  /-- 0x02: `.byte $02`, the fill entry, R220. -/
  | fill02
  /-- 0x03: `.byte $03`, the fill entry, R220. -/
  | fill03
  /-- 0x04: `.byte $04`, the fill entry, R220. -/
  | fill04
  /-- 0x05: ORA zp, unwired, R222. -/
  | oraZp0
  /-- 0x06: ASL zp, unwired, R222. -/
  | aslZp0
  /-- 0x07: `.byte $07`, the fill entry, R220. -/
  | fill07
  /-- 0x08: PHP, unwired, R222. -/
  | php
  /-- 0x09: ORA #imm, unwired, R222. -/
  | oraImm
  /-- 0x0A: ASL A, unwired, R222. -/
  | aslAcc
  /-- 0x0B: `.byte $0B`, the fill entry, R220. -/
  | fill0B
  /-- 0x0C: `.byte $0C`, the fill entry, R220. -/
  | fill0C
  /-- 0x0D: ORA abs, unwired, R222. -/
  | oraAbs
  /-- 0x0E: ASL abs, unwired, R222. -/
  | aslAbs
  /-- 0x0F: `.byte $0F`, the fill entry, R220. -/
  | fill0F
  /-- 0x10: BPL rel, unwired, R222. -/
  | bplRel
  /-- 0x11: ORA (zp),Y, unwired, R222. -/
  | oraIzy
  /-- 0x12: `.byte $12`, the fill entry, R220. -/
  | fill12
  /-- 0x13: `.byte $13`, the fill entry, R220. -/
  | fill13
  /-- 0x14: `.byte $14`, the fill entry, R220. -/
  | fill14
  /-- 0x15: ORA zp,X, unwired, R222. -/
  | oraZpx
  /-- 0x16: ASL zp,X, unwired, R222. -/
  | aslZpx
  /-- 0x17: `.byte $17`, the fill entry, R220. -/
  | fill17
  /-- 0x18: CLC, unwired, R222. -/
  | clc
  /-- 0x19: ORA abs,Y, unwired, R222. -/
  | oraAby
  /-- 0x1A: `.byte $1A`, the fill entry, R220. -/
  | fill1A
  /-- 0x1B: `.byte $1B`, the fill entry, R220. -/
  | fill1B
  /-- 0x1C: `.byte $1C`, the fill entry, R220. -/
  | fill1C
  /-- 0x1D: ORA abs,X, unwired, R222. -/
  | oraAbx
  /-- 0x1E: ASL abs,X, unwired, R222. -/
  | aslAbx
  /-- 0x1F: `.byte $1F`, the fill entry, R220. -/
  | fill1F
  /-- 0x20: JSR abs, unwired, R222. -/
  | jsrAbs
  /-- 0x21: AND (zp,X), unwired, R222. -/
  | andIzx
  /-- 0x22: `.byte $22`, the fill entry, R220. -/
  | fill22
  /-- 0x23: `.byte $23`, the fill entry, R220. -/
  | fill23
  /-- 0x24: BIT zp, unwired, R222. -/
  | bitZp0
  /-- 0x25: AND zp, unwired, R222. -/
  | andZp0
  /-- 0x26: ROL zp, unwired, R222. -/
  | rolZp0
  /-- 0x27: `.byte $27`, the fill entry, R220. -/
  | fill27
  /-- 0x28: PLP, unwired, R222. -/
  | plp
  /-- 0x29: AND #imm, unwired, R222. -/
  | andImm
  /-- 0x2A: ROL A, unwired, R222. -/
  | rolAcc
  /-- 0x2B: `.byte $2B`, the fill entry, R220. -/
  | fill2B
  /-- 0x2C: BIT abs, unwired, R222. -/
  | bitAbs
  /-- 0x2D: AND abs, unwired, R222. -/
  | andAbs
  /-- 0x2E: ROL abs, unwired, R222. -/
  | rolAbs
  /-- 0x2F: `.byte $2F`, the fill entry, R220. -/
  | fill2F
  /-- 0x30: BMI rel, unwired, R222. -/
  | bmiRel
  /-- 0x31: AND (zp),Y, unwired, R222. -/
  | andIzy
  /-- 0x32: `.byte $32`, the fill entry, R220. -/
  | fill32
  /-- 0x33: `.byte $33`, the fill entry, R220. -/
  | fill33
  /-- 0x34: `.byte $34`, the fill entry, R220. -/
  | fill34
  /-- 0x35: AND zp,X, unwired, R222. -/
  | andZpx
  /-- 0x36: ROL zp,X, unwired, R222. -/
  | rolZpx
  /-- 0x37: `.byte $37`, the fill entry, R220. -/
  | fill37
  /-- 0x38: SEC, unwired, R222. -/
  | sec
  /-- 0x39: AND abs,Y, unwired, R222. -/
  | andAby
  /-- 0x3A: `.byte $3A`, the fill entry, R220. -/
  | fill3A
  /-- 0x3B: `.byte $3B`, the fill entry, R220. -/
  | fill3B
  /-- 0x3C: `.byte $3C`, the fill entry, R220. -/
  | fill3C
  /-- 0x3D: AND abs,X, unwired, R222. -/
  | andAbx
  /-- 0x3E: ROL abs,X, unwired, R222. -/
  | rolAbx
  /-- 0x3F: `.byte $3F`, the fill entry, R220. -/
  | fill3F
  /-- 0x40: RTI, unwired, R222. -/
  | rti
  /-- 0x41: EOR (zp,X), unwired, R222. -/
  | eorIzx
  /-- 0x42: `.byte $42`, the fill entry, R220. -/
  | fill42
  /-- 0x43: `.byte $43`, the fill entry, R220. -/
  | fill43
  /-- 0x44: `.byte $44`, the fill entry, R220. -/
  | fill44
  /-- 0x45: EOR zp, unwired, R222. -/
  | eorZp0
  /-- 0x46: LSR zp, unwired, R222. -/
  | lsrZp0
  /-- 0x47: `.byte $47`, the fill entry, R220. -/
  | fill47
  /-- 0x48: PHA, unwired, R222. -/
  | pha
  /-- 0x49: EOR #imm, unwired, R222. -/
  | eorImm
  /-- 0x4A: LSR A, unwired, R222. -/
  | lsrAcc
  /-- 0x4B: `.byte $4B`, the fill entry, R220. -/
  | fill4B
  /-- 0x4C: JMP abs, unwired, R222. -/
  | jmpAbs
  /-- 0x4D: EOR abs, unwired, R222. -/
  | eorAbs
  /-- 0x4E: LSR abs, unwired, R222. -/
  | lsrAbs
  /-- 0x4F: `.byte $4F`, the fill entry, R220. -/
  | fill4F
  /-- 0x50: BVC rel, unwired, R222. -/
  | bvcRel
  /-- 0x51: EOR (zp),Y, unwired, R222. -/
  | eorIzy
  /-- 0x52: `.byte $52`, the fill entry, R220. -/
  | fill52
  /-- 0x53: `.byte $53`, the fill entry, R220. -/
  | fill53
  /-- 0x54: `.byte $54`, the fill entry, R220. -/
  | fill54
  /-- 0x55: EOR zp,X, unwired, R222. -/
  | eorZpx
  /-- 0x56: LSR zp,X, unwired, R222. -/
  | lsrZpx
  /-- 0x57: `.byte $57`, the fill entry, R220. -/
  | fill57
  /-- 0x58: CLI, unwired, R222. -/
  | cli
  /-- 0x59: EOR abs,Y, unwired, R222. -/
  | eorAby
  /-- 0x5A: `.byte $5A`, the fill entry, R220. -/
  | fill5A
  /-- 0x5B: `.byte $5B`, the fill entry, R220. -/
  | fill5B
  /-- 0x5C: `.byte $5C`, the fill entry, R220. -/
  | fill5C
  /-- 0x5D: EOR abs,X, unwired, R222. -/
  | eorAbx
  /-- 0x5E: LSR abs,X, unwired, R222. -/
  | lsrAbx
  /-- 0x5F: `.byte $5F`, the fill entry, R220. -/
  | fill5F
  /-- 0x60: RTS, unwired, R222. -/
  | rts
  /-- 0x62: `.byte $62`, the fill entry, R220. -/
  | fill62
  /-- 0x63: `.byte $63`, the fill entry, R220. -/
  | fill63
  /-- 0x64: `.byte $64`, the fill entry, R220. -/
  | fill64
  /-- 0x66: ROR zp, unwired, R222. -/
  | rorZp0
  /-- 0x67: `.byte $67`, the fill entry, R220. -/
  | fill67
  /-- 0x68: PLA, unwired, R222. -/
  | pla
  /-- 0x6A: ROR A, unwired, R222. -/
  | rorAcc
  /-- 0x6B: `.byte $6B`, the fill entry, R220. -/
  | fill6B
  /-- 0x6C: JMP (abs), unwired, R222. -/
  | jmpInd
  /-- 0x6E: ROR abs, unwired, R222. -/
  | rorAbs
  /-- 0x6F: `.byte $6F`, the fill entry, R220. -/
  | fill6F
  /-- 0x70: BVS rel, unwired, R222. -/
  | bvsRel
  /-- 0x72: `.byte $72`, the fill entry, R220. -/
  | fill72
  /-- 0x73: `.byte $73`, the fill entry, R220. -/
  | fill73
  /-- 0x74: `.byte $74`, the fill entry, R220. -/
  | fill74
  /-- 0x76: ROR zp,X, unwired, R222. -/
  | rorZpx
  /-- 0x77: `.byte $77`, the fill entry, R220. -/
  | fill77
  /-- 0x78: SEI, unwired, R222. -/
  | sei
  /-- 0x7A: `.byte $7A`, the fill entry, R220. -/
  | fill7A
  /-- 0x7B: `.byte $7B`, the fill entry, R220. -/
  | fill7B
  /-- 0x7C: `.byte $7C`, the fill entry, R220. -/
  | fill7C
  /-- 0x7E: ROR abs,X, unwired, R222. -/
  | rorAbx
  /-- 0x7F: `.byte $7F`, the fill entry, R220. -/
  | fill7F
  /-- 0x80: `.byte $80`, the fill entry, R220. -/
  | fill80
  /-- 0x81: STA (zp,X), unwired, R222. -/
  | staIzx
  /-- 0x82: `.byte $82`, the fill entry, R220. -/
  | fill82
  /-- 0x83: `.byte $83`, the fill entry, R220. -/
  | fill83
  /-- 0x84: STY zp, unwired, R222. -/
  | styZp0
  /-- 0x85: STA zp, unwired, R222. -/
  | staZp0
  /-- 0x86: STX zp, unwired, R222. -/
  | stxZp0
  /-- 0x87: `.byte $87`, the fill entry, R220. -/
  | fill87
  /-- 0x88: DEY, unwired, R222. -/
  | dey
  /-- 0x89: `.byte $89`, the fill entry, R220. -/
  | fill89
  /-- 0x8A: TXA, unwired, R222. -/
  | txa
  /-- 0x8B: `.byte $8B`, the fill entry, R220. -/
  | fill8B
  /-- 0x8C: STY abs, unwired, R222. -/
  | styAbs
  /-- 0x8D: STA abs, unwired, R222. -/
  | staAbs
  /-- 0x8E: STX abs, unwired, R222. -/
  | stxAbs
  /-- 0x8F: `.byte $8F`, the fill entry, R220. -/
  | fill8F
  /-- 0x90: BCC rel, unwired, R222. -/
  | bccRel
  /-- 0x91: STA (zp),Y, unwired, R222. -/
  | staIzy
  /-- 0x92: `.byte $92`, the fill entry, R220. -/
  | fill92
  /-- 0x93: `.byte $93`, the fill entry, R220. -/
  | fill93
  /-- 0x94: STY zp,X, unwired, R222. -/
  | styZpx
  /-- 0x95: STA zp,X, unwired, R222. -/
  | staZpx
  /-- 0x96: STX zp,Y, unwired, R222. -/
  | stxZpy
  /-- 0x97: `.byte $97`, the fill entry, R220. -/
  | fill97
  /-- 0x98: TYA, unwired, R222. -/
  | tya
  /-- 0x99: STA abs,Y, unwired, R222. -/
  | staAby
  /-- 0x9A: TXS, unwired, R222. -/
  | txs
  /-- 0x9B: `.byte $9B`, the fill entry, R220. -/
  | fill9B
  /-- 0x9C: `.byte $9C`, the fill entry, R220. -/
  | fill9C
  /-- 0x9D: STA abs,X, unwired, R222. -/
  | staAbx
  /-- 0x9E: `.byte $9E`, the fill entry, R220. -/
  | fill9E
  /-- 0x9F: `.byte $9F`, the fill entry, R220. -/
  | fill9F
  /-- 0xA0: LDY #imm, unwired, R222. -/
  | ldyImm
  /-- 0xA1: LDA (zp,X), unwired, R222. -/
  | ldaIzx
  /-- 0xA2: LDX #imm, unwired, R222. -/
  | ldxImm
  /-- 0xA3: `.byte $A3`, the fill entry, R220. -/
  | fillA3
  /-- 0xA4: LDY zp, unwired, R222. -/
  | ldyZp0
  /-- 0xA5: LDA zp, unwired, R222. -/
  | ldaZp0
  /-- 0xA6: LDX zp, unwired, R222. -/
  | ldxZp0
  /-- 0xA7: `.byte $A7`, the fill entry, R220. -/
  | fillA7
  /-- 0xA8: TAY, unwired, R222. -/
  | tay
  /-- 0xA9: LDA #imm, unwired, R222. -/
  | ldaImm
  /-- 0xAA: TAX, unwired, R222. -/
  | tax
  /-- 0xAB: `.byte $AB`, the fill entry, R220. -/
  | fillAB
  /-- 0xAC: LDY abs, unwired, R222. -/
  | ldyAbs
  /-- 0xAD: LDA abs, unwired, R222. -/
  | ldaAbs
  /-- 0xAE: LDX abs, unwired, R222. -/
  | ldxAbs
  /-- 0xAF: `.byte $AF`, the fill entry, R220. -/
  | fillAF
  /-- 0xB0: BCS rel, unwired, R222. -/
  | bcsRel
  /-- 0xB1: LDA (zp),Y, unwired, R222. -/
  | ldaIzy
  /-- 0xB2: `.byte $B2`, the fill entry, R220. -/
  | fillB2
  /-- 0xB3: `.byte $B3`, the fill entry, R220. -/
  | fillB3
  /-- 0xB4: LDY zp,X, unwired, R222. -/
  | ldyZpx
  /-- 0xB5: LDA zp,X, unwired, R222. -/
  | ldaZpx
  /-- 0xB6: LDX zp,Y, unwired, R222. -/
  | ldxZpy
  /-- 0xB7: `.byte $B7`, the fill entry, R220. -/
  | fillB7
  /-- 0xB8: CLV, unwired, R222. -/
  | clv
  /-- 0xB9: LDA abs,Y, unwired, R222. -/
  | ldaAby
  /-- 0xBA: TSX, unwired, R222. -/
  | tsx
  /-- 0xBB: `.byte $BB`, the fill entry, R220. -/
  | fillBB
  /-- 0xBC: LDY abs,X, unwired, R222. -/
  | ldyAbx
  /-- 0xBD: LDA abs,X, unwired, R222. -/
  | ldaAbx
  /-- 0xBE: LDX abs,Y, unwired, R222. -/
  | ldxAby
  /-- 0xBF: `.byte $BF`, the fill entry, R220. -/
  | fillBF
  /-- 0xC0: CPY #imm, unwired, R222. -/
  | cpyImm
  /-- 0xC1: CMP (zp,X), unwired, R222. -/
  | cmpIzx
  /-- 0xC2: `.byte $C2`, the fill entry, R220. -/
  | fillC2
  /-- 0xC3: `.byte $C3`, the fill entry, R220. -/
  | fillC3
  /-- 0xC4: CPY zp, unwired, R222. -/
  | cpyZp0
  /-- 0xC5: CMP zp, unwired, R222. -/
  | cmpZp0
  /-- 0xC6: DEC zp, unwired, R222. -/
  | decZp0
  /-- 0xC7: `.byte $C7`, the fill entry, R220. -/
  | fillC7
  /-- 0xC8: INY, unwired, R222. -/
  | iny
  /-- 0xC9: CMP #imm, unwired, R222. -/
  | cmpImm
  /-- 0xCA: DEX, unwired, R222. -/
  | dex
  /-- 0xCB: `.byte $CB`, the fill entry, R220. -/
  | fillCB
  /-- 0xCC: CPY abs, unwired, R222. -/
  | cpyAbs
  /-- 0xCD: CMP abs, unwired, R222. -/
  | cmpAbs
  /-- 0xCE: DEC abs, unwired, R222. -/
  | decAbs
  /-- 0xCF: `.byte $CF`, the fill entry, R220. -/
  | fillCF
  /-- 0xD0: BNE rel, unwired, R222. -/
  | bneRel
  /-- 0xD1: CMP (zp),Y, unwired, R222. -/
  | cmpIzy
  /-- 0xD2: `.byte $D2`, the fill entry, R220. -/
  | fillD2
  /-- 0xD3: `.byte $D3`, the fill entry, R220. -/
  | fillD3
  /-- 0xD4: `.byte $D4`, the fill entry, R220. -/
  | fillD4
  /-- 0xD5: CMP zp,X, unwired, R222. -/
  | cmpZpx
  /-- 0xD6: DEC zp,X, unwired, R222. -/
  | decZpx
  /-- 0xD7: `.byte $D7`, the fill entry, R220. -/
  | fillD7
  /-- 0xD8: CLD, unwired, R222. -/
  | cld
  /-- 0xD9: CMP abs,Y, unwired, R222. -/
  | cmpAby
  /-- 0xDA: `.byte $DA`, the fill entry, R220. -/
  | fillDA
  /-- 0xDB: `.byte $DB`, the fill entry, R220. -/
  | fillDB
  /-- 0xDC: `.byte $DC`, the fill entry, R220. -/
  | fillDC
  /-- 0xDD: CMP abs,X, unwired, R222. -/
  | cmpAbx
  /-- 0xDE: DEC abs,X, unwired, R222. -/
  | decAbx
  /-- 0xDF: `.byte $DF`, the fill entry, R220. -/
  | fillDF
  /-- 0xE0: CPX #imm, unwired, R222. -/
  | cpxImm
  /-- 0xE2: `.byte $E2`, the fill entry, R220. -/
  | fillE2
  /-- 0xE3: `.byte $E3`, the fill entry, R220. -/
  | fillE3
  /-- 0xE4: CPX zp, unwired, R222. -/
  | cpxZp0
  /-- 0xE6: INC zp, unwired, R222. -/
  | incZp0
  /-- 0xE7: `.byte $E7`, the fill entry, R220. -/
  | fillE7
  /-- 0xE8: INX, unwired, R222. -/
  | inx
  /-- 0xEA: NOP, unwired, R222. -/
  | nop
  /-- 0xEB: `.byte $EB`, the fill entry, R220. -/
  | fillEB
  /-- 0xEC: CPX abs, unwired, R222. -/
  | cpxAbs
  /-- 0xEE: INC abs, unwired, R222. -/
  | incAbs
  /-- 0xEF: `.byte $EF`, the fill entry, R220. -/
  | fillEF
  /-- 0xF0: BEQ rel, unwired, R222. -/
  | beqRel
  /-- 0xF2: `.byte $F2`, the fill entry, R220. -/
  | fillF2
  /-- 0xF3: `.byte $F3`, the fill entry, R220. -/
  | fillF3
  /-- 0xF4: `.byte $F4`, the fill entry, R220. -/
  | fillF4
  /-- 0xF6: INC zp,X, unwired, R222. -/
  | incZpx
  /-- 0xF7: `.byte $F7`, the fill entry, R220. -/
  | fillF7
  /-- 0xF8: SED, unwired, R222. -/
  | sed
  /-- 0xFA: `.byte $FA`, the fill entry, R220. -/
  | fillFA
  /-- 0xFB: `.byte $FB`, the fill entry, R220. -/
  | fillFB
  /-- 0xFC: `.byte $FC`, the fill entry, R220. -/
  | fillFC
  /-- 0xFE: INC abs,X, unwired, R222. -/
  | incAbx
  /-- 0xFF: `.byte $FF`, the fill entry, R220. -/
  | fillFF
  deriving DecidableEq, Repr

end Sys2Proof
end

