-- ==== Sys2Proof/Machine/OpcodeTable.lean ====
section
/-! DEFINITION. Machine/OpcodeTable.lean: the opcode table TABLE of R150 with its base costs, written from the map of R86, and
the default costs of R153 and R154. The decoder (Decode.lean) does not use this table: the two are compared in
Sys2Proof/Laws/PerInstr.lean. -/

namespace Sys2Proof.Machine

/-- The 105 illegal opcode bytes, in R87's order. -/
def illegalOpcodes : List Byte :=
  [0x02#8, 0x03#8, 0x04#8, 0x07#8, 0x0B#8, 0x0C#8, 0x0F#8, 0x12#8, 0x13#8, 0x14#8, 0x17#8, 0x1A#8, 0x1B#8, 0x1C#8, 0x1F#8] ++
  [0x22#8, 0x23#8, 0x27#8, 0x2B#8, 0x2F#8, 0x32#8, 0x33#8, 0x34#8, 0x37#8, 0x3A#8, 0x3B#8, 0x3C#8, 0x3F#8, 0x42#8, 0x43#8] ++
  [0x44#8, 0x47#8, 0x4B#8, 0x4F#8, 0x52#8, 0x53#8, 0x54#8, 0x57#8, 0x5A#8, 0x5B#8, 0x5C#8, 0x5F#8, 0x62#8, 0x63#8, 0x64#8] ++
  [0x67#8, 0x6B#8, 0x6F#8, 0x72#8, 0x73#8, 0x74#8, 0x77#8, 0x7A#8, 0x7B#8, 0x7C#8, 0x7F#8, 0x80#8, 0x82#8, 0x83#8, 0x87#8] ++
  [0x89#8, 0x8B#8, 0x8F#8, 0x92#8, 0x93#8, 0x97#8, 0x9B#8, 0x9C#8, 0x9E#8, 0x9F#8, 0xA3#8, 0xA7#8, 0xAB#8, 0xAF#8, 0xB2#8] ++
  [0xB3#8, 0xB7#8, 0xBB#8, 0xBF#8, 0xC2#8, 0xC3#8, 0xC7#8, 0xCB#8, 0xCF#8, 0xD2#8, 0xD3#8, 0xD4#8, 0xD7#8, 0xDA#8, 0xDB#8] ++
  [0xDC#8, 0xDF#8, 0xE2#8, 0xE3#8, 0xE7#8, 0xEB#8, 0xEF#8, 0xF2#8, 0xF3#8, 0xF4#8, 0xF7#8, 0xFA#8, 0xFB#8, 0xFC#8, 0xFF#8]

/-- The 135 unwired opcode bytes: the entries `u:M` of R86, in byte order. -/
def unwiredOpcodes : List Byte :=
  [0x00#8, 0x01#8, 0x05#8, 0x06#8, 0x08#8, 0x09#8, 0x0A#8, 0x0D#8, 0x0E#8, 0x10#8, 0x11#8, 0x15#8, 0x16#8, 0x18#8, 0x19#8] ++
  [0x1D#8, 0x1E#8, 0x20#8, 0x21#8, 0x24#8, 0x25#8, 0x26#8, 0x28#8, 0x29#8, 0x2A#8, 0x2C#8, 0x2D#8, 0x2E#8, 0x30#8, 0x31#8] ++
  [0x35#8, 0x36#8, 0x38#8, 0x39#8, 0x3D#8, 0x3E#8, 0x40#8, 0x41#8, 0x45#8, 0x46#8, 0x48#8, 0x49#8, 0x4A#8, 0x4C#8, 0x4D#8] ++
  [0x4E#8, 0x50#8, 0x51#8, 0x55#8, 0x56#8, 0x58#8, 0x59#8, 0x5D#8, 0x5E#8, 0x60#8, 0x66#8, 0x68#8, 0x6A#8, 0x6C#8, 0x6E#8] ++
  [0x70#8, 0x76#8, 0x78#8, 0x7E#8, 0x81#8, 0x84#8, 0x85#8, 0x86#8, 0x88#8, 0x8A#8, 0x8C#8, 0x8D#8, 0x8E#8, 0x90#8, 0x91#8] ++
  [0x94#8, 0x95#8, 0x96#8, 0x98#8, 0x99#8, 0x9A#8, 0x9D#8, 0xA0#8, 0xA1#8, 0xA2#8, 0xA4#8, 0xA5#8, 0xA6#8, 0xA8#8, 0xA9#8] ++
  [0xAA#8, 0xAC#8, 0xAD#8, 0xAE#8, 0xB0#8, 0xB1#8, 0xB4#8, 0xB5#8, 0xB6#8, 0xB8#8, 0xB9#8, 0xBA#8, 0xBC#8, 0xBD#8, 0xBE#8] ++
  [0xC0#8, 0xC1#8, 0xC4#8, 0xC5#8, 0xC6#8, 0xC8#8, 0xC9#8, 0xCA#8, 0xCC#8, 0xCD#8, 0xCE#8, 0xD0#8, 0xD1#8, 0xD5#8, 0xD6#8] ++
  [0xD8#8, 0xD9#8, 0xDD#8, 0xDE#8, 0xE0#8, 0xE4#8, 0xE6#8, 0xE8#8, 0xEA#8, 0xEC#8, 0xEE#8, 0xF0#8, 0xF6#8, 0xF8#8, 0xFE#8]

/-- The 16 wired opcode bytes (R85). -/
def wiredOpcodes : List Byte :=
  [0x69#8, 0x65#8, 0x75#8, 0x6D#8, 0x7D#8, 0x79#8, 0x61#8, 0x71#8] ++
  [0xE9#8, 0xE5#8, 0xF5#8, 0xED#8, 0xFD#8, 0xF9#8, 0xE1#8, 0xF1#8]

/-- The cost of 1 to 254 that a number gives, 1 for a number outside that range (R152 refuses such a number before this is
asked: `Config.build`). -/
def costOfNat (n : Nat) : Cost :=
  if h : 1 ≤ n ∧ n ≤ 254 then ⟨BitVec.ofNat 8 n, by simp only [BitVec.toNat_ofNat]; omega⟩ else ⟨1#8, by decide⟩

/-- The default base costs of the eight wired modes, the documented NMOS values (R153, D2). -/
def defaultModeCosts : ModeCosts where
  imm := costOfNat 2
  zp0 := costOfNat 3
  zpx := costOfNat 4
  abs := costOfNat 4
  abx := costOfNat 4
  aby := costOfNat 4
  izx := costOfNat 6
  izy := costOfNat 5

/-- The default configuration: R153's base costs for both operations, 2 for every illegal opcode (R154, D4), and the order
the simulator uses, LoFirst (R7, D6). -/
def defaultConfig : Config where
  adc := defaultModeCosts
  sbc := defaultModeCosts
  fillCycles := Vector.replicate 105 (costOfNat 2)
  ptrReadOrder := .loFirst

/-- `FILL_CYCLES(opcode)` (R154): the cost at the opcode's place in R87's list. The default is never met by an illegal opcode. -/
def fillCost (cfg : Config) (opcode : Byte) : Cost :=
  (cfg.fillCycles[illegalOpcodes.idxOf opcode]?).getD (costOfNat 2)

/-- A fill entry (R151): mnemonic `???`, operation FILL, mode IMP. -/
def fillEntry (cfg : Config) (opcode : Byte) : Entry :=
  .run "???" .fill .imp (fillCost cfg opcode)

/-- The entries of opcode bytes 0x00 to 0x0F (R86). -/
def tableRow0 (cfg : Config) : List Entry :=
  [.unwired "BRK", .unwired "ORA", fillEntry cfg 0x02#8, fillEntry cfg 0x03#8,
   fillEntry cfg 0x04#8, .unwired "ORA", .unwired "ASL", fillEntry cfg 0x07#8,
   .unwired "PHP", .unwired "ORA", .unwired "ASL", fillEntry cfg 0x0B#8,
   fillEntry cfg 0x0C#8, .unwired "ORA", .unwired "ASL", fillEntry cfg 0x0F#8]

/-- The entries of opcode bytes 0x10 to 0x1F (R86). -/
def tableRow1 (cfg : Config) : List Entry :=
  [.unwired "BPL", .unwired "ORA", fillEntry cfg 0x12#8, fillEntry cfg 0x13#8,
   fillEntry cfg 0x14#8, .unwired "ORA", .unwired "ASL", fillEntry cfg 0x17#8,
   .unwired "CLC", .unwired "ORA", fillEntry cfg 0x1A#8, fillEntry cfg 0x1B#8,
   fillEntry cfg 0x1C#8, .unwired "ORA", .unwired "ASL", fillEntry cfg 0x1F#8]

/-- The entries of opcode bytes 0x20 to 0x2F (R86). -/
def tableRow2 (cfg : Config) : List Entry :=
  [.unwired "JSR", .unwired "AND", fillEntry cfg 0x22#8, fillEntry cfg 0x23#8,
   .unwired "BIT", .unwired "AND", .unwired "ROL", fillEntry cfg 0x27#8,
   .unwired "PLP", .unwired "AND", .unwired "ROL", fillEntry cfg 0x2B#8,
   .unwired "BIT", .unwired "AND", .unwired "ROL", fillEntry cfg 0x2F#8]

/-- The entries of opcode bytes 0x30 to 0x3F (R86). -/
def tableRow3 (cfg : Config) : List Entry :=
  [.unwired "BMI", .unwired "AND", fillEntry cfg 0x32#8, fillEntry cfg 0x33#8,
   fillEntry cfg 0x34#8, .unwired "AND", .unwired "ROL", fillEntry cfg 0x37#8,
   .unwired "SEC", .unwired "AND", fillEntry cfg 0x3A#8, fillEntry cfg 0x3B#8,
   fillEntry cfg 0x3C#8, .unwired "AND", .unwired "ROL", fillEntry cfg 0x3F#8]

/-- The entries of opcode bytes 0x40 to 0x4F (R86). -/
def tableRow4 (cfg : Config) : List Entry :=
  [.unwired "RTI", .unwired "EOR", fillEntry cfg 0x42#8, fillEntry cfg 0x43#8,
   fillEntry cfg 0x44#8, .unwired "EOR", .unwired "LSR", fillEntry cfg 0x47#8,
   .unwired "PHA", .unwired "EOR", .unwired "LSR", fillEntry cfg 0x4B#8,
   .unwired "JMP", .unwired "EOR", .unwired "LSR", fillEntry cfg 0x4F#8]

/-- The entries of opcode bytes 0x50 to 0x5F (R86). -/
def tableRow5 (cfg : Config) : List Entry :=
  [.unwired "BVC", .unwired "EOR", fillEntry cfg 0x52#8, fillEntry cfg 0x53#8,
   fillEntry cfg 0x54#8, .unwired "EOR", .unwired "LSR", fillEntry cfg 0x57#8,
   .unwired "CLI", .unwired "EOR", fillEntry cfg 0x5A#8, fillEntry cfg 0x5B#8,
   fillEntry cfg 0x5C#8, .unwired "EOR", .unwired "LSR", fillEntry cfg 0x5F#8]

/-- The entries of opcode bytes 0x60 to 0x6F (R86). -/
def tableRow6 (cfg : Config) : List Entry :=
  [.unwired "RTS", .run "ADC" .adc .izx cfg.adc.izx, fillEntry cfg 0x62#8, fillEntry cfg 0x63#8,
   fillEntry cfg 0x64#8, .run "ADC" .adc .zp0 cfg.adc.zp0, .unwired "ROR", fillEntry cfg 0x67#8,
   .unwired "PLA", .run "ADC" .adc .imm cfg.adc.imm, .unwired "ROR", fillEntry cfg 0x6B#8,
   .unwired "JMP", .run "ADC" .adc .abs cfg.adc.abs, .unwired "ROR", fillEntry cfg 0x6F#8]

/-- The entries of opcode bytes 0x70 to 0x7F (R86). -/
def tableRow7 (cfg : Config) : List Entry :=
  [.unwired "BVS", .run "ADC" .adc .izy cfg.adc.izy, fillEntry cfg 0x72#8, fillEntry cfg 0x73#8,
   fillEntry cfg 0x74#8, .run "ADC" .adc .zpx cfg.adc.zpx, .unwired "ROR", fillEntry cfg 0x77#8,
   .unwired "SEI", .run "ADC" .adc .aby cfg.adc.aby, fillEntry cfg 0x7A#8, fillEntry cfg 0x7B#8,
   fillEntry cfg 0x7C#8, .run "ADC" .adc .abx cfg.adc.abx, .unwired "ROR", fillEntry cfg 0x7F#8]

/-- The entries of opcode bytes 0x80 to 0x8F (R86). -/
def tableRow8 (cfg : Config) : List Entry :=
  [fillEntry cfg 0x80#8, .unwired "STA", fillEntry cfg 0x82#8, fillEntry cfg 0x83#8,
   .unwired "STY", .unwired "STA", .unwired "STX", fillEntry cfg 0x87#8,
   .unwired "DEY", fillEntry cfg 0x89#8, .unwired "TXA", fillEntry cfg 0x8B#8,
   .unwired "STY", .unwired "STA", .unwired "STX", fillEntry cfg 0x8F#8]

/-- The entries of opcode bytes 0x90 to 0x9F (R86). -/
def tableRow9 (cfg : Config) : List Entry :=
  [.unwired "BCC", .unwired "STA", fillEntry cfg 0x92#8, fillEntry cfg 0x93#8,
   .unwired "STY", .unwired "STA", .unwired "STX", fillEntry cfg 0x97#8,
   .unwired "TYA", .unwired "STA", .unwired "TXS", fillEntry cfg 0x9B#8,
   fillEntry cfg 0x9C#8, .unwired "STA", fillEntry cfg 0x9E#8, fillEntry cfg 0x9F#8]

/-- The entries of opcode bytes 0xA0 to 0xAF (R86). -/
def tableRowA (cfg : Config) : List Entry :=
  [.unwired "LDY", .unwired "LDA", .unwired "LDX", fillEntry cfg 0xA3#8,
   .unwired "LDY", .unwired "LDA", .unwired "LDX", fillEntry cfg 0xA7#8,
   .unwired "TAY", .unwired "LDA", .unwired "TAX", fillEntry cfg 0xAB#8,
   .unwired "LDY", .unwired "LDA", .unwired "LDX", fillEntry cfg 0xAF#8]

/-- The entries of opcode bytes 0xB0 to 0xBF (R86). -/
def tableRowB (cfg : Config) : List Entry :=
  [.unwired "BCS", .unwired "LDA", fillEntry cfg 0xB2#8, fillEntry cfg 0xB3#8,
   .unwired "LDY", .unwired "LDA", .unwired "LDX", fillEntry cfg 0xB7#8,
   .unwired "CLV", .unwired "LDA", .unwired "TSX", fillEntry cfg 0xBB#8,
   .unwired "LDY", .unwired "LDA", .unwired "LDX", fillEntry cfg 0xBF#8]

/-- The entries of opcode bytes 0xC0 to 0xCF (R86). -/
def tableRowC (cfg : Config) : List Entry :=
  [.unwired "CPY", .unwired "CMP", fillEntry cfg 0xC2#8, fillEntry cfg 0xC3#8,
   .unwired "CPY", .unwired "CMP", .unwired "DEC", fillEntry cfg 0xC7#8,
   .unwired "INY", .unwired "CMP", .unwired "DEX", fillEntry cfg 0xCB#8,
   .unwired "CPY", .unwired "CMP", .unwired "DEC", fillEntry cfg 0xCF#8]

/-- The entries of opcode bytes 0xD0 to 0xDF (R86). -/
def tableRowD (cfg : Config) : List Entry :=
  [.unwired "BNE", .unwired "CMP", fillEntry cfg 0xD2#8, fillEntry cfg 0xD3#8,
   fillEntry cfg 0xD4#8, .unwired "CMP", .unwired "DEC", fillEntry cfg 0xD7#8,
   .unwired "CLD", .unwired "CMP", fillEntry cfg 0xDA#8, fillEntry cfg 0xDB#8,
   fillEntry cfg 0xDC#8, .unwired "CMP", .unwired "DEC", fillEntry cfg 0xDF#8]

/-- The entries of opcode bytes 0xE0 to 0xEF (R86). -/
def tableRowE (cfg : Config) : List Entry :=
  [.unwired "CPX", .run "SBC" .sbc .izx cfg.sbc.izx, fillEntry cfg 0xE2#8, fillEntry cfg 0xE3#8,
   .unwired "CPX", .run "SBC" .sbc .zp0 cfg.sbc.zp0, .unwired "INC", fillEntry cfg 0xE7#8,
   .unwired "INX", .run "SBC" .sbc .imm cfg.sbc.imm, .unwired "NOP", fillEntry cfg 0xEB#8,
   .unwired "CPX", .run "SBC" .sbc .abs cfg.sbc.abs, .unwired "INC", fillEntry cfg 0xEF#8]

/-- The entries of opcode bytes 0xF0 to 0xFF (R86). -/
def tableRowF (cfg : Config) : List Entry :=
  [.unwired "BEQ", .run "SBC" .sbc .izy cfg.sbc.izy, fillEntry cfg 0xF2#8, fillEntry cfg 0xF3#8,
   fillEntry cfg 0xF4#8, .run "SBC" .sbc .zpx cfg.sbc.zpx, .unwired "INC", fillEntry cfg 0xF7#8,
   .unwired "SED", .run "SBC" .sbc .aby cfg.sbc.aby, fillEntry cfg 0xFA#8, fillEntry cfg 0xFB#8,
   fillEntry cfg 0xFC#8, .run "SBC" .sbc .abx cfg.sbc.abx, .unwired "INC", fillEntry cfg 0xFF#8]

/-- The rows of the table, by the high nibble of the opcode byte. -/
def tableRows (cfg : Config) : List (List Entry) :=
  [tableRow0 cfg, tableRow1 cfg, tableRow2 cfg, tableRow3 cfg, tableRow4 cfg, tableRow5 cfg, tableRow6 cfg, tableRow7 cfg] ++
  [tableRow8 cfg, tableRow9 cfg, tableRowA cfg, tableRowB cfg, tableRowC cfg, tableRowD cfg, tableRowE cfg, tableRowF cfg]

/-- TABLE (R150): total on the 256 opcode bytes. The defaults are never met. -/
def table (cfg : Config) (opcode : Byte) : Entry :=
  ((tableRows cfg).getD (opcode.toNat / 16) []).getD (opcode.toNat % 16) (.unwired "NOP")

/-- `operandBytes` of a mode: the bytes its resolver consumes (R82, R125). -/
def operandBytes : Mode → Nat
  | .imp => 0
  | .imm | .zp0 | .zpx | .zpy | .rel | .izx | .izy => 1
  | .abs | .abx | .aby | .ind => 2

/-- The instruction length `L` (R82) of an entry that runs; an unwired entry is refused after its opcode byte. -/
def entryLength : Entry → Nat
  | .run _ _ mode _ => 1 + operandBytes mode
  | .unwired _ => 1

/-- Whether a number is a cost the opcode table may hold (R152, D19). -/
def costInRange (n : Nat) : Bool := decide (1 ≤ n) && decide (n ≤ 254)

end Sys2Proof.Machine
end

