-- ==== Sys2Proof/Machine/State.lean ====
section
/-! DEFINITION. Machine/State.lean: the state of the block as plain data, the reasons a step can stop, and the state after
reset. -/

namespace Sys2Proof.Machine

/-- One read event of the Memory Port: the address and the byte the port answered (R11). -/
structure ReadEvent where
  addr : Addr
  value : Byte
  deriving DecidableEq, Repr

/-- The addresses a claim or a launch declares RAM, each with the byte last placed there (R52, D8): strictly rising
addresses, each below 65536 (`Memory.wf`). An address not listed is not declared RAM; a read of it answers a free byte. -/
abbrev Memory := List Host.Cell

/-- The state of the block. -/
structure State where
  /-- Accumulator A (R20, R21). -/
  a : Byte
  /-- Index register X (R20, R22). -/
  x : Byte
  /-- Index register Y (R20, R22). -/
  y : Byte
  /-- Stack pointer SP (R20, R23). -/
  sp : Byte
  /-- Program counter PC: the next unconsumed byte (R31). -/
  pc : Addr
  /-- Status register P; its bits by name through `Flag` (R24). -/
  p : Byte
  /-- Hidden: the opcode byte last fetched (R33). -/
  opcode : Byte
  /-- Hidden: the resolved absolute address (R33, R34). -/
  absAddr : Addr
  /-- Hidden: the resolved relative offset (R33, R34). -/
  relAddr : Addr
  /-- Hidden: the operand byte (R33, R34). -/
  fetched : Byte
  /-- Hidden: whether `fetched` holds this instruction's operand (R33, D28). -/
  fetchValid : Bool
  /-- Hidden: the pulses left of the instruction in flight (R35). -/
  cycles : Byte
  /-- The mark a refusal sets and no later step clears (R166). -/
  refused : Bool
  /-- The declared RAM (R52, D8). -/
  mem : Memory
  /-- The read events of the Memory Port, newest first (R11). -/
  history : List ReadEvent
  /-- The model's own count of Memory Port reads: the free answers of the port are applied to it. -/
  reads : Nat
  /-- The model's own count of invalidations of the resolved-address state: its free values are applied to it. -/
  stale : Nat
  /-- The named parameters of R7, which no step changes (R37). -/
  config : Config
  deriving DecidableEq, Repr

/-- The reasons a step stops with a fault. -/
inductive Fault where
  /-- Operand materialization under Relative mode with no operand cached (R131, D24). Raised by `fetchOperand`; no
  instruction reaches it (R241). SAFE: the block names no address to read, and the model stops. -/
  | unresolvedAbsAddr
  deriving DecidableEq, Repr

/-- The reasons a step is given no meaning. -/
inductive Refusal where
  /-- The instruction has no meaning in this model yet; no arm of `exec` answers it. SAFE: the model stops. -/
  | notModelled (mnemonic : String)
  /-- `refuse UnwiredOpcode(opcode, address)` with the state R166 leaves: PC one past the opcode, the `refused` mark set.
  Raised by the meaning of each of the 135 unwired opcodes (R160 step 3, R222). SAFE: the spec errs toward unprovable (D3). -/
  | unwiredOpcode (opcode : Byte) (address : Addr) (left : State)
  /-- The state bears the `refused` mark and has no further pulse (R166). Raised by `step`. SAFE: the model stops. -/
  | noFurtherPulse
  deriving DecidableEq, Repr

/-- What a pulse or a meaning answers. -/
abbrev Result := Host.Outcome State Fault Refusal

/-- A launch state (R42, R270): the block has no reset. The spec gives no register a value here: each zero is a DESIGN CHOICE
(notes/assumptions/1.md to 5.md), `cycles` and `refused` are as the clean entry of R271 asks, and the configuration is the
defaults (R7, R153, R154). -/
def State.reset : State where
  a := 0#8
  x := 0#8
  y := 0#8
  sp := 0#8
  pc := 0#16
  p := 0#8
  opcode := 0#8
  absAddr := 0#16
  relAddr := 0#16
  fetched := 0#8
  fetchValid := false
  cycles := 0#8
  refused := false
  mem := []
  history := []
  reads := 0
  stale := 0
  config := defaultConfig

end Sys2Proof.Machine
end

