-- ==== Sys2Proof/Machine/Ops.lean ====
section
/-! DEFINITION. Machine/Ops.lean: the named operations over memory, the program counter and the hidden registers, and the
byte-order and extension helpers. The block takes no exception and returns from none (R240, R242, R244, R245): there is no
trap entry to share, and no privileged state. The two stops it has are `refuseUnwired` here and the fault of
`fetchOperand` (Operands.lean). -/

namespace Sys2Proof.Machine

/-! ### Address helpers -/

/-- `zext_16(b)` (R10). -/
def zext16 (b : Byte) : Addr := b.zeroExtend 16

/-- `sext_16(b)` (R10, R116). -/
def sext16 (b : Byte) : Addr := b.signExtend 16

/-- `(hi << 8) | lo`: a 16-bit value of two bytes, `lo` from the lower address (R10, R53). -/
def mkAddr (lo hi : Byte) : Addr := hi ++ lo

/-- The page of an address: its high byte, the low byte zero (`addr & 0xFF00`, R13). -/
def pageOf (addr : Addr) : Addr := addr &&& 0xFF00#16

/-- The page-cross test (R123): whether the high bytes of `base` and `addr` differ. -/
def pageCross (base addr : Addr) : Bool := pageOf addr != pageOf base

/-! ### Declared RAM -/

/-- The byte of a declared-RAM address, `none` at an address that is not declared RAM. -/
def Memory.get : Memory → Nat → Option Byte
  | [], _ => none
  | (k, v) :: rest, addr => if k = addr then some v else Memory.get rest addr

/-- Declares an address RAM with a byte, or changes the byte of one that is. -/
def Memory.put : Memory → Nat → Byte → Memory
  | [], addr, b => [(addr, b)]
  | (k, v) :: rest, addr, b =>
    if addr < k then (addr, b) :: (k, v) :: rest
    else if addr = k then (k, b) :: rest
    else (k, v) :: Memory.put rest addr b

/-- Changes the byte of a declared-RAM address; an address that is not declared RAM stays so. -/
def Memory.update : Memory → Nat → Byte → Memory
  | [], _, _ => []
  | (k, v) :: rest, addr, b => if k = addr then (k, b) :: rest else (k, v) :: Memory.update rest addr b

/-- The canonical form of declared RAM: strictly rising addresses, each below 65536 (R51). An address not listed reads as a free
byte, which no listed byte equals by form, so no entry is redundant. -/
def Memory.wf : Memory → Bool
  | [] => true
  | [(k, _)] => decide (k < 65536)
  | (k, _) :: (k', v') :: rest => decide (k < k') && Memory.wf ((k', v') :: rest)

/-! ### The Memory Port -/

/-- The byte the port answers to the next normal read of `addr`: the RAM byte where `addr` is declared RAM, else a free byte,
one for each read (R52, R57, D8). -/
def State.portAnswer (s : State) (addr : Addr) : Byte :=
  (s.mem.get addr.toNat).getD (Config.portByte s.reads addr)

/-- `MemRead(addr, 1)` (R11): one normal read, recorded in the history. It returns the byte and the state after. -/
def State.memRead (s : State) (addr : Addr) : Byte × State :=
  (s.portAnswer addr,
    { s with history := ⟨addr, s.portAnswer addr⟩ :: s.history, reads := s.reads + 1 })

/-- `MemWrite(addr, 1, v)` (R11, R58, D23): one total write of one byte. At a declared-RAM address a later read returns it
(R52); elsewhere the port's own law holds and the core's view has none. No instruction issues it. -/
def State.memWrite (s : State) (addr : Addr) (b : Byte) : State :=
  { s with mem := s.mem.update addr.toNat b }

/-- What a launch image, or another agent of the port between pulses, does at an address of declared RAM (R52, R63, R275):
from now on the address is declared RAM and holds `b`. -/
def State.place (s : State) (addr : Addr) (b : Byte) : State :=
  { s with mem := s.mem.put addr.toNat b }

/-- Places bytes at consecutive addresses from `addr` on, modulo 65536 (R51). -/
def State.placeBytes (s : State) (addr : Addr) : List Byte → State
  | [] => s
  | b :: rest => (s.place addr b).placeBytes (addr + 1#16) rest

/-- A read with the read-only hint, for debug collaborators only (R57, R250): it changes nothing, and the core issues none.
DESIGN CHOICE (notes/assumptions/18.md): the collaborator numbers its hinted reads, `n` here, so two of them of one address that
is not declared RAM may answer different bytes, with or without a normal read or an idle pulse between them. -/
def State.hintedRead (s : State) (n : Nat) (addr : Addr) : Byte :=
  (s.mem.get addr.toNat).getD (Config.hintedByte n addr)

/-! ### Fetching -/

/-- `fetchNext()` (R11): reads the byte at PC and advances PC by one, modulo 65536 (R31). -/
def State.fetchNext (s : State) : Byte × State :=
  ((s.memRead s.pc).1, { (s.memRead s.pc).2 with pc := s.pc + 1#16 })

/-- Step 2 of a dispatch pulse (R160): the opcode fetch, which also clears `fetchValid` (D28). -/
def State.fetchOpcode (s : State) : Byte × State :=
  (s.fetchNext.1, { s.fetchNext.2 with opcode := s.fetchNext.1, fetchValid := false })

/-- `read16pair(aLo, aHi)` (R124): exactly two reads of one byte, in the order `PTR_READ_ORDER` gives. -/
def State.read16pair (s : State) (aLo aHi : Addr) : (Byte × Byte) × State :=
  match s.config.ptrReadOrder with
  | .loFirst =>
    (((s.memRead aLo).1, ((s.memRead aLo).2.memRead aHi).1), ((s.memRead aLo).2.memRead aHi).2)
  | .hiFirst =>
    ((((s.memRead aHi).2.memRead aLo).1, (s.memRead aHi).1), ((s.memRead aHi).2.memRead aLo).2)

/-! ### The hidden registers and the cycle counter -/

/-- Once an instruction begins, the resolved-address state of the one before holds no determined value (R34, I2): each of its
registers takes a free value until this instruction's resolver or operand writes it. -/
def State.invalidate (s : State) : State :=
  { s with
    absAddr := Config.staleAbsAddr s.stale
    relAddr := Config.staleRelAddr s.stale
    fetched := Config.staleFetched s.stale
    stale := s.stale + 1 }

/-- Step 5 of a dispatch pulse (R160): the cycle counter takes the entry's base cost. -/
def State.loadCycles (s : State) (base : Cost) : State :=
  { s with cycles := base.value }

/-- Step 9 of a dispatch pulse (R160): the extra cycle, where it is granted. -/
def State.grantExtra (s : State) (extra : Bool) : State :=
  { s with cycles := s.cycles + (BitVec.ofBool extra).zeroExtend 8 }

/-- The decrement of every pulse: step 11 of a dispatch pulse (R160) and the whole of an idle pulse (R161). -/
def State.tick (s : State) : State :=
  { s with cycles := s.cycles - 1#8 }

/-! ### The refusal of an unwired opcode -/

/-- `refuse UnwiredOpcode(opcode, PC -_16 1)` (R160 step 3, R222): the state is the one right after the opcode fetch, and the
`refused` mark is set in it (R166). -/
def refuseUnwired (opcode : Byte) (s : State) : Result :=
  .refused (.unwiredOpcode opcode (s.pc - 1#16) { s with refused := true })

end Sys2Proof.Machine
end

