-- ==== Sys2Proof/Machine/Flags.lean ====
section
/-! DEFINITION. Machine/Flags.lean: the bits of P, the adder with its carry and overflow, its carry-lookahead form, and the
flags and accumulator ADC and SBC write. -/

namespace Sys2Proof.Machine

/-- The eight flags of P (R24): Carry, Zero, Interrupt-disable, Decimal, Break, Unused, Overflow, Negative. -/
inductive Flag where
  | C | Z | I | D | B | U | V | N
  deriving DecidableEq, Repr

/-- The bit position of a flag in P (R24). -/
def flagPos : Flag → Nat
  | .C => 0
  | .Z => 1
  | .I => 2
  | .D => 3
  | .B => 4
  | .U => 5
  | .V => 6
  | .N => 7

/-- One bit of a byte, with the other seven kept. -/
def setBit (p : Byte) (i : Nat) (b : Bool) : Byte :=
  if b then p ||| BitVec.twoPow 8 i else p &&& ~~~ BitVec.twoPow 8 i

/-- `P.f` read (R11, R24). -/
def State.flag (s : State) (f : Flag) : Bool := s.p.getLsbD (flagPos f)

/-- `P.f <- b` (R11): one bit of P written, the other seven kept (R26, R40). -/
def State.setFlag (s : State) (f : Flag) (b : Bool) : State :=
  { s with p := setBit s.p (flagPos f) b }

/-- Steps 4 and 10 of a dispatch pulse (R160): `P.U <- 1` (R30). -/
def State.forceU (s : State) : State := s.setFlag .U true

/-! ### The adder -/

/-- The overflow detector (R182): `((a ^ r) & ~(a ^ b))[7]`. -/
def overflow (a b r : Byte) : Bool := ((a ^^^ r) &&& ~~~ (a ^^^ b)).getLsbD 7

/-- The adder (R180): result, carry out and overflow of `a + b + cin`, the sum computed exactly. -/
def add8 (a b : Byte) (cin : Bool) : Byte × Bool × Bool :=
  let s := a.toNat + b.toNat + cin.toNat
  let r := BitVec.ofNat 8 s
  (r, decide (255 < s), overflow a b r)

/-- `g[i]`, the generate bit (R181). -/
def genBit (a b : Byte) (i : Nat) : Bool := a.getLsbD i && b.getLsbD i

/-- `p[i]`, the propagate bit (R181). -/
def propBit (a b : Byte) (i : Nat) : Bool := a.getLsbD i ^^ b.getLsbD i

/-- `c[i]`, the carry into bit i, by `c[i+1] = g[i] | (p[i] & c[i])` (R181). -/
def carryBit (a b : Byte) (cin : Bool) : Nat → Bool
  | 0 => cin
  | i + 1 => genBit a b i || (propBit a b i && carryBit a b cin i)

/-- `G` of the 4-bit lookahead group that starts at bit k (R181). -/
def groupGen (a b : Byte) (k : Nat) : Bool :=
  genBit a b (k + 3) || (propBit a b (k + 3) && genBit a b (k + 2)) ||
    (propBit a b (k + 3) && propBit a b (k + 2) && genBit a b (k + 1)) ||
    (propBit a b (k + 3) && propBit a b (k + 2) && propBit a b (k + 1) && genBit a b k)

/-- `P` of the 4-bit lookahead group that starts at bit k (R181). -/
def groupProp (a b : Byte) (k : Nat) : Bool :=
  propBit a b (k + 3) && propBit a b (k + 2) && propBit a b (k + 1) && propBit a b k

/-- `c4 = G_lo | P_lo c0` (R181). -/
def carry4 (a b : Byte) (cin : Bool) : Bool := groupGen a b 0 || (groupProp a b 0 && cin)

/-- `c8 = G_hi | P_hi c4` (R181). -/
def carry8 (a b : Byte) (cin : Bool) : Bool := groupGen a b 4 || (groupProp a b 4 && carry4 a b cin)

/-- The adder in the form of R181: `r[i] = p[i] ^ c[i]`, the carry out from the two lookahead groups, and the overflow as
`c[8] ^ c[7]` (R182). -/
def carryLookahead (a b : Byte) (cin : Bool) : Byte × Bool × Bool :=
  let bit := fun i => (propBit a b i ^^ carryBit a b cin i).toNat * 2 ^ i
  (BitVec.ofNat 8 (bit 0 + bit 1 + bit 2 + bit 3 + bit 4 + bit 5 + bit 6 + bit 7),
    carry8 a b cin, carry8 a b cin ^^ carryBit a b cin 7)

/-! ### What ADC and SBC write -/

/-- The adder's three results put into `P.C`, `P.Z`, `P.V`, `P.N` and A (R184, R186). -/
def State.writeSum (s : State) (sum : Byte × Bool × Bool) : State :=
  { ((((s.setFlag .C sum.2.1).setFlag .Z (decide (sum.1 = 0#8))).setFlag .V sum.2.2).setFlag .N (sum.1.getLsbD 7)) with
    a := sum.1 }

/-- The effect of ADC on the operand byte `m` (R184): binary whatever `P.D` holds (R183). -/
def State.adcWrite (s : State) (m : Byte) : State := s.writeSum (add8 s.a m (s.flag .C))

/-- The effect of SBC on the operand byte `m` (R186): the adder on the complemented operand. -/
def State.sbcWrite (s : State) (m : Byte) : State := s.writeSum (add8 s.a (m ^^^ 0xFF#8) (s.flag .C))

end Sys2Proof.Machine
end

