-- ==== Sys2Proof/Machine/Operands.lean ====
section
/-! DEFINITION. Machine/Operands.lean: the addressing-mode resolver (R110 to R125) and operand materialization (R130 to R132).
A resolver is cut in two: taking its operand bytes at PC (`takeOperand`) and computing from them (`resolveOperand`). An
instruction's meaning starts after its bytes are taken and calls the second alone; `resolve` is the two together. -/

namespace Sys2Proof.Machine

/-- The mode of an operand. -/
def operandMode : Operand → Mode
  | .imp => .imp
  | .imm _ => .imm
  | .zp0 _ => .zp0
  | .zpx _ => .zpx
  | .zpy _ => .zpy
  | .rel _ => .rel
  | .abs _ _ => .abs
  | .abx _ _ => .abx
  | .aby _ _ => .aby
  | .ind _ _ => .ind
  | .izx _ => .izx
  | .izy _ => .izy

/-- The one operand byte of format F2, as `mk` makes an operand of it. -/
def State.take1 (s : State) (mk : Byte → Operand) : Operand × State :=
  (mk s.fetchNext.1, s.fetchNext.2)

/-- The two operand bytes of format F3, low byte first (R81, R124). -/
def State.take2 (s : State) (mk : Byte → Byte → Operand) : Operand × State :=
  (mk s.fetchNext.1 s.fetchNext.2.fetchNext.1, s.fetchNext.2.fetchNext.2)

/-- The operand bytes a mode consumes at PC, PC advanced past them (R110, R125). -/
def State.takeOperand (s : State) : Mode → Operand × State
  | .imp => (.imp, s)
  | .imm => s.take1 .imm
  | .zp0 => s.take1 .zp0
  | .zpx => s.take1 .zpx
  | .zpy => s.take1 .zpy
  | .rel => s.take1 .rel
  | .abs => s.take2 .abs
  | .abx => s.take2 .abx
  | .aby => s.take2 .aby
  | .ind => s.take2 .ind
  | .izx => s.take1 .izx
  | .izy => s.take1 .izy

/-- `absAddr` written, with the extra-cycle signal A of the mode (R110). -/
def State.resolved (s : State) (addr : Addr) (sigA : Bool) : Bool × State :=
  (sigA, { s with absAddr := addr })

/-- Implied (R111): `absAddr` is PC, for information only. -/
def resolveImp (s : State) : Bool × State := s.resolved s.pc false

/-- Immediate (R112): the operand byte itself. -/
def resolveImm (imm8 : Byte) (s : State) : Bool × State :=
  (false, { s with fetched := imm8, fetchValid := true })

/-- Zero-page (R113). -/
def resolveZp0 (zp8 : Byte) (s : State) : Bool × State := s.resolved (zext16 zp8) false

/-- Zero-page indexed (R114, R115): the sum wraps inside page 0. -/
def resolveZpIndexed (zp8 index : Byte) (s : State) : Bool × State := s.resolved (zext16 (zp8 + index)) false

/-- Relative (R116): the sign-extended offset; the signal is 0 (D24). -/
def resolveRel (off8 : Byte) (s : State) : Bool × State := (false, { s with relAddr := sext16 off8 })

/-- Absolute (R117). -/
def resolveAbs (lo hi : Byte) (s : State) : Bool × State := s.resolved (mkAddr lo hi) false

/-- A base and an index added modulo 65536, with the page-cross signal (R118, R119, R122, C5). -/
def resolveIndexed (base : Addr) (index : Byte) (s : State) : Bool × State :=
  s.resolved (base + zext16 index) (pageCross base (base + zext16 index))

/-- Where Indirect reads the high byte of its target: inside the pointer's own page when its low byte is 0xFF (R120). -/
def indirectHigh (lo hi : Byte) : Addr :=
  if lo = 0xFF#8 then pageOf (mkAddr lo hi) else mkAddr lo hi + 1#16

/-- Indirect (R120). -/
def resolveInd (lo hi : Byte) (s : State) : Bool × State :=
  let r := s.read16pair (mkAddr lo hi) (indirectHigh lo hi)
  r.2.resolved (mkAddr r.1.1 r.1.2) false

/-- The 16-bit pointer at a zero-page byte: its two addresses never leave page 0 (R121, R122). -/
def State.zeroPagePair (s : State) (t : Byte) : (Byte × Byte) × State :=
  s.read16pair (zext16 t) (zext16 (t + 1#8))

/-- Indexed-indirect (X) (R121). -/
def resolveIzx (zp8 : Byte) (s : State) : Bool × State :=
  let r := s.zeroPagePair (zp8 + s.x)
  r.2.resolved (mkAddr r.1.1 r.1.2) false

/-- Indirect-indexed (Y) (R122). -/
def resolveIzy (zp8 : Byte) (s : State) : Bool × State :=
  let r := s.zeroPagePair zp8
  resolveIndexed (mkAddr r.1.1 r.1.2) r.2.y r.2

/-- The resolver of a mode, from its operand bytes on: signal A and the state with the mode's one output written (R110). -/
def resolveOperand (o : Operand) (s : State) : Bool × State :=
  match o with
  | .imp => resolveImp s
  | .imm imm8 => resolveImm imm8 s
  | .zp0 zp8 => resolveZp0 zp8 s
  | .zpx zp8 => resolveZpIndexed zp8 s.x s
  | .zpy zp8 => resolveZpIndexed zp8 s.y s
  | .rel off8 => resolveRel off8 s
  | .abs lo hi => resolveAbs lo hi s
  | .abx lo hi => resolveIndexed (mkAddr lo hi) s.x s
  | .aby lo hi => resolveIndexed (mkAddr lo hi) s.y s
  | .ind lo hi => resolveInd lo hi s
  | .izx zp8 => resolveIzx zp8 s
  | .izy zp8 => resolveIzy zp8 s

/-- `resolve(mode)` (R110 to R122): the whole resolver, its operand bytes taken at PC. -/
def resolve (mode : Mode) (s : State) : Bool × State :=
  resolveOperand (s.takeOperand mode).1 (s.takeOperand mode).2

/-- The one data read of materialization, cached (R130, R131). -/
def State.materialize (s : State) : Byte × State :=
  ((s.memRead s.absAddr).1, { (s.memRead s.absAddr).2 with fetched := (s.memRead s.absAddr).1, fetchValid := true })

/-- `fetchOperand()` (R131): no read under Immediate or when cached; a fault under Relative with nothing cached; else one read
at `absAddr`, cached. -/
def fetchOperand (mode : Mode) (s : State) : Except Fault (Byte × State) :=
  if mode = .imm then .ok (s.fetched, s)
  else if s.fetchValid then .ok (s.fetched, s)
  else if mode = .rel then .error .unresolvedAbsAddr
  else .ok s.materialize

end Sys2Proof.Machine
end

