-- ==== Sys2Proof/Machine/Engine.lean ====
section
/-! DEFINITION. Machine/Engine.lean: the operations of the opcode table and steps 4 to 11 of the dispatch pulse (R160). -/

namespace Sys2Proof.Machine

/-- `opADC()` (R184): the effect and signal B = 1 (R188). -/
def opAdc (mode : Mode) (s : State) : Except Fault (Bool × State) :=
  match fetchOperand mode s with
  | .error f => .error f
  | .ok r => .ok (true, r.2.adcWrite r.1)

/-- `opSBC()` (R186): the effect and signal B = 1 (R188, D25). -/
def opSbc (mode : Mode) (s : State) : Except Fault (Bool × State) :=
  match fetchOperand mode s with
  | .error f => .error f
  | .ok r => .ok (true, r.2.sbcWrite r.1)

/-- `opFILL()` (R220): no effect, no operand, signal B = 0. -/
def opFill (s : State) : Except Fault (Bool × State) := .ok (false, s)

/-- `operate(op)` (R160 step 7): signal B and the state after the operation. -/
def operate (op : Operation) (mode : Mode) (s : State) : Except Fault (Bool × State) :=
  match op with
  | .adc => opAdc mode s
  | .sbc => opSbc mode s
  | .fill => opFill s

/-- Steps 4 and 5 of a dispatch pulse (R160), and the end of the previous instruction's resolved-address state (R34). -/
def State.beginEntry (s : State) (base : Cost) : State := (s.forceU.loadCycles base).invalidate

/-- Steps 8 to 11 of a dispatch pulse (R160): the extra cycle where both signals ask for it (R162), the second force of U, and
the decrement. -/
def State.endEntry (s : State) (sigA sigB : Bool) : State := ((s.grantExtra (sigA && sigB)).forceU).tick

/-- Steps 7 to 11 of a dispatch pulse (R160), after a resolver answered signal A. -/
def finishEntry (op : Operation) (mode : Mode) (r : Bool × State) : Result :=
  match operate op mode r.2 with
  | .error f => .fault f
  | .ok q => .next (q.2.endEntry r.1 q.1)

/-- Steps 4 to 11 of a dispatch pulse (R160) for an entry whose operand bytes are taken. -/
def runEntry (op : Operation) (o : Operand) (base : Cost) (s : State) : Result :=
  finishEntry op (operandMode o) (resolveOperand o (s.beginEntry base))

end Sys2Proof.Machine
end

