-- ==== Sys2Proof/Machine/Adc.lean ====
section
/-! DEFINITION. Machine/Adc.lean: the meanings of the eight ADC opcodes (R184, R190 to R197). Each starts in the state its fetch leaves: PC past the
instruction's bytes, and runs steps 4 to 11 of the dispatch pulse (R160) with its own mode, operation and base cost. -/

namespace Sys2Proof.Machine

/-- `ADC (zp,X)`, opcode 0x61 (R196). -/
def execAdcIzx (zp8 : Byte) (s : State) : Result :=
  runEntry .adc (.izx zp8) s.config.adc.izx s

/-- `ADC zp`, opcode 0x65 (R191). -/
def execAdcZp0 (zp8 : Byte) (s : State) : Result :=
  runEntry .adc (.zp0 zp8) s.config.adc.zp0 s

/-- `ADC #imm`, opcode 0x69 (R190). -/
def execAdcImm (imm8 : Byte) (s : State) : Result :=
  runEntry .adc (.imm imm8) s.config.adc.imm s

/-- `ADC abs`, opcode 0x6D (R193). -/
def execAdcAbs (lo hi : Byte) (s : State) : Result :=
  runEntry .adc (.abs lo hi) s.config.adc.abs s

/-- `ADC (zp),Y`, opcode 0x71 (R197). -/
def execAdcIzy (zp8 : Byte) (s : State) : Result :=
  runEntry .adc (.izy zp8) s.config.adc.izy s

/-- `ADC zp,X`, opcode 0x75 (R192). -/
def execAdcZpx (zp8 : Byte) (s : State) : Result :=
  runEntry .adc (.zpx zp8) s.config.adc.zpx s

/-- `ADC abs,Y`, opcode 0x79 (R195). -/
def execAdcAby (lo hi : Byte) (s : State) : Result :=
  runEntry .adc (.aby lo hi) s.config.adc.aby s

/-- `ADC abs,X`, opcode 0x7D (R194). -/
def execAdcAbx (lo hi : Byte) (s : State) : Result :=
  runEntry .adc (.abx lo hi) s.config.adc.abx s

end Sys2Proof.Machine
end

