-- ==== Sys2Proof/Machine/Fill.lean ====
section
/-! DEFINITION. Machine/Fill.lean: the meanings of the 105 illegal opcodes, each the fill entry with its own `FILL_CYCLES`
cost (R87, R151, R220, R221). -/

namespace Sys2Proof.Machine

/-- The fill entry of an illegal opcode (R220): mode IMP, the operation with no effect, the opcode's cost. -/
def runFill (opcode : Byte) (s : State) : Result :=
  runEntry .fill .imp (fillCost s.config opcode) s

/-- `.byte $02` (R220). -/
def execFill02 (s : State) : Result := runFill 0x02#8 s

/-- `.byte $03` (R220). -/
def execFill03 (s : State) : Result := runFill 0x03#8 s

/-- `.byte $04` (R220). -/
def execFill04 (s : State) : Result := runFill 0x04#8 s

/-- `.byte $07` (R220). -/
def execFill07 (s : State) : Result := runFill 0x07#8 s

/-- `.byte $0B` (R220). -/
def execFill0B (s : State) : Result := runFill 0x0B#8 s

/-- `.byte $0C` (R220). -/
def execFill0C (s : State) : Result := runFill 0x0C#8 s

/-- `.byte $0F` (R220). -/
def execFill0F (s : State) : Result := runFill 0x0F#8 s

/-- `.byte $12` (R220). -/
def execFill12 (s : State) : Result := runFill 0x12#8 s

/-- `.byte $13` (R220). -/
def execFill13 (s : State) : Result := runFill 0x13#8 s

/-- `.byte $14` (R220). -/
def execFill14 (s : State) : Result := runFill 0x14#8 s

/-- `.byte $17` (R220). -/
def execFill17 (s : State) : Result := runFill 0x17#8 s

/-- `.byte $1A` (R220). -/
def execFill1A (s : State) : Result := runFill 0x1A#8 s

/-- `.byte $1B` (R220). -/
def execFill1B (s : State) : Result := runFill 0x1B#8 s

/-- `.byte $1C` (R220). -/
def execFill1C (s : State) : Result := runFill 0x1C#8 s

/-- `.byte $1F` (R220). -/
def execFill1F (s : State) : Result := runFill 0x1F#8 s

/-- `.byte $22` (R220). -/
def execFill22 (s : State) : Result := runFill 0x22#8 s

/-- `.byte $23` (R220). -/
def execFill23 (s : State) : Result := runFill 0x23#8 s

/-- `.byte $27` (R220). -/
def execFill27 (s : State) : Result := runFill 0x27#8 s

/-- `.byte $2B` (R220). -/
def execFill2B (s : State) : Result := runFill 0x2B#8 s

/-- `.byte $2F` (R220). -/
def execFill2F (s : State) : Result := runFill 0x2F#8 s

/-- `.byte $32` (R220). -/
def execFill32 (s : State) : Result := runFill 0x32#8 s

/-- `.byte $33` (R220). -/
def execFill33 (s : State) : Result := runFill 0x33#8 s

/-- `.byte $34` (R220). -/
def execFill34 (s : State) : Result := runFill 0x34#8 s

/-- `.byte $37` (R220). -/
def execFill37 (s : State) : Result := runFill 0x37#8 s

/-- `.byte $3A` (R220). -/
def execFill3A (s : State) : Result := runFill 0x3A#8 s

/-- `.byte $3B` (R220). -/
def execFill3B (s : State) : Result := runFill 0x3B#8 s

/-- `.byte $3C` (R220). -/
def execFill3C (s : State) : Result := runFill 0x3C#8 s

/-- `.byte $3F` (R220). -/
def execFill3F (s : State) : Result := runFill 0x3F#8 s

/-- `.byte $42` (R220). -/
def execFill42 (s : State) : Result := runFill 0x42#8 s

/-- `.byte $43` (R220). -/
def execFill43 (s : State) : Result := runFill 0x43#8 s

/-- `.byte $44` (R220). -/
def execFill44 (s : State) : Result := runFill 0x44#8 s

/-- `.byte $47` (R220). -/
def execFill47 (s : State) : Result := runFill 0x47#8 s

/-- `.byte $4B` (R220). -/
def execFill4B (s : State) : Result := runFill 0x4B#8 s

/-- `.byte $4F` (R220). -/
def execFill4F (s : State) : Result := runFill 0x4F#8 s

/-- `.byte $52` (R220). -/
def execFill52 (s : State) : Result := runFill 0x52#8 s

/-- `.byte $53` (R220). -/
def execFill53 (s : State) : Result := runFill 0x53#8 s

/-- `.byte $54` (R220). -/
def execFill54 (s : State) : Result := runFill 0x54#8 s

/-- `.byte $57` (R220). -/
def execFill57 (s : State) : Result := runFill 0x57#8 s

/-- `.byte $5A` (R220). -/
def execFill5A (s : State) : Result := runFill 0x5A#8 s

/-- `.byte $5B` (R220). -/
def execFill5B (s : State) : Result := runFill 0x5B#8 s

/-- `.byte $5C` (R220). -/
def execFill5C (s : State) : Result := runFill 0x5C#8 s

/-- `.byte $5F` (R220). -/
def execFill5F (s : State) : Result := runFill 0x5F#8 s

/-- `.byte $62` (R220). -/
def execFill62 (s : State) : Result := runFill 0x62#8 s

/-- `.byte $63` (R220). -/
def execFill63 (s : State) : Result := runFill 0x63#8 s

/-- `.byte $64` (R220). -/
def execFill64 (s : State) : Result := runFill 0x64#8 s

/-- `.byte $67` (R220). -/
def execFill67 (s : State) : Result := runFill 0x67#8 s

/-- `.byte $6B` (R220). -/
def execFill6B (s : State) : Result := runFill 0x6B#8 s

/-- `.byte $6F` (R220). -/
def execFill6F (s : State) : Result := runFill 0x6F#8 s

/-- `.byte $72` (R220). -/
def execFill72 (s : State) : Result := runFill 0x72#8 s

/-- `.byte $73` (R220). -/
def execFill73 (s : State) : Result := runFill 0x73#8 s

/-- `.byte $74` (R220). -/
def execFill74 (s : State) : Result := runFill 0x74#8 s

/-- `.byte $77` (R220). -/
def execFill77 (s : State) : Result := runFill 0x77#8 s

/-- `.byte $7A` (R220). -/
def execFill7A (s : State) : Result := runFill 0x7A#8 s

/-- `.byte $7B` (R220). -/
def execFill7B (s : State) : Result := runFill 0x7B#8 s

/-- `.byte $7C` (R220). -/
def execFill7C (s : State) : Result := runFill 0x7C#8 s

/-- `.byte $7F` (R220). -/
def execFill7F (s : State) : Result := runFill 0x7F#8 s

/-- `.byte $80` (R220). -/
def execFill80 (s : State) : Result := runFill 0x80#8 s

/-- `.byte $82` (R220). -/
def execFill82 (s : State) : Result := runFill 0x82#8 s

/-- `.byte $83` (R220). -/
def execFill83 (s : State) : Result := runFill 0x83#8 s

/-- `.byte $87` (R220). -/
def execFill87 (s : State) : Result := runFill 0x87#8 s

/-- `.byte $89` (R220). -/
def execFill89 (s : State) : Result := runFill 0x89#8 s

/-- `.byte $8B` (R220). -/
def execFill8B (s : State) : Result := runFill 0x8B#8 s

/-- `.byte $8F` (R220). -/
def execFill8F (s : State) : Result := runFill 0x8F#8 s

/-- `.byte $92` (R220). -/
def execFill92 (s : State) : Result := runFill 0x92#8 s

/-- `.byte $93` (R220). -/
def execFill93 (s : State) : Result := runFill 0x93#8 s

/-- `.byte $97` (R220). -/
def execFill97 (s : State) : Result := runFill 0x97#8 s

/-- `.byte $9B` (R220). -/
def execFill9B (s : State) : Result := runFill 0x9B#8 s

/-- `.byte $9C` (R220). -/
def execFill9C (s : State) : Result := runFill 0x9C#8 s

/-- `.byte $9E` (R220). -/
def execFill9E (s : State) : Result := runFill 0x9E#8 s

/-- `.byte $9F` (R220). -/
def execFill9F (s : State) : Result := runFill 0x9F#8 s

/-- `.byte $A3` (R220). -/
def execFillA3 (s : State) : Result := runFill 0xA3#8 s

/-- `.byte $A7` (R220). -/
def execFillA7 (s : State) : Result := runFill 0xA7#8 s

/-- `.byte $AB` (R220). -/
def execFillAB (s : State) : Result := runFill 0xAB#8 s

/-- `.byte $AF` (R220). -/
def execFillAF (s : State) : Result := runFill 0xAF#8 s

/-- `.byte $B2` (R220). -/
def execFillB2 (s : State) : Result := runFill 0xB2#8 s

/-- `.byte $B3` (R220). -/
def execFillB3 (s : State) : Result := runFill 0xB3#8 s

/-- `.byte $B7` (R220). -/
def execFillB7 (s : State) : Result := runFill 0xB7#8 s

/-- `.byte $BB` (R220). -/
def execFillBB (s : State) : Result := runFill 0xBB#8 s

/-- `.byte $BF` (R220). -/
def execFillBF (s : State) : Result := runFill 0xBF#8 s

/-- `.byte $C2` (R220). -/
def execFillC2 (s : State) : Result := runFill 0xC2#8 s

/-- `.byte $C3` (R220). -/
def execFillC3 (s : State) : Result := runFill 0xC3#8 s

/-- `.byte $C7` (R220). -/
def execFillC7 (s : State) : Result := runFill 0xC7#8 s

/-- `.byte $CB` (R220). -/
def execFillCB (s : State) : Result := runFill 0xCB#8 s

/-- `.byte $CF` (R220). -/
def execFillCF (s : State) : Result := runFill 0xCF#8 s

/-- `.byte $D2` (R220). -/
def execFillD2 (s : State) : Result := runFill 0xD2#8 s

/-- `.byte $D3` (R220). -/
def execFillD3 (s : State) : Result := runFill 0xD3#8 s

/-- `.byte $D4` (R220). -/
def execFillD4 (s : State) : Result := runFill 0xD4#8 s

/-- `.byte $D7` (R220). -/
def execFillD7 (s : State) : Result := runFill 0xD7#8 s

/-- `.byte $DA` (R220). -/
def execFillDA (s : State) : Result := runFill 0xDA#8 s

/-- `.byte $DB` (R220). -/
def execFillDB (s : State) : Result := runFill 0xDB#8 s

/-- `.byte $DC` (R220). -/
def execFillDC (s : State) : Result := runFill 0xDC#8 s

/-- `.byte $DF` (R220). -/
def execFillDF (s : State) : Result := runFill 0xDF#8 s

/-- `.byte $E2` (R220). -/
def execFillE2 (s : State) : Result := runFill 0xE2#8 s

/-- `.byte $E3` (R220). -/
def execFillE3 (s : State) : Result := runFill 0xE3#8 s

/-- `.byte $E7` (R220). -/
def execFillE7 (s : State) : Result := runFill 0xE7#8 s

/-- `.byte $EB` (R220). -/
def execFillEB (s : State) : Result := runFill 0xEB#8 s

/-- `.byte $EF` (R220). -/
def execFillEF (s : State) : Result := runFill 0xEF#8 s

/-- `.byte $F2` (R220). -/
def execFillF2 (s : State) : Result := runFill 0xF2#8 s

/-- `.byte $F3` (R220). -/
def execFillF3 (s : State) : Result := runFill 0xF3#8 s

/-- `.byte $F4` (R220). -/
def execFillF4 (s : State) : Result := runFill 0xF4#8 s

/-- `.byte $F7` (R220). -/
def execFillF7 (s : State) : Result := runFill 0xF7#8 s

/-- `.byte $FA` (R220). -/
def execFillFA (s : State) : Result := runFill 0xFA#8 s

/-- `.byte $FB` (R220). -/
def execFillFB (s : State) : Result := runFill 0xFB#8 s

/-- `.byte $FC` (R220). -/
def execFillFC (s : State) : Result := runFill 0xFC#8 s

/-- `.byte $FF` (R220). -/
def execFillFF (s : State) : Result := runFill 0xFF#8 s

end Sys2Proof.Machine
end

