-- ==== Sys2Proof/Machine/Sbc.lean ====
section
/-! DEFINITION. Machine/Sbc.lean: the meanings of the eight SBC opcodes (R186, R200 to R207). Each starts in the state its fetch leaves: PC past the
instruction's bytes, and runs steps 4 to 11 of the dispatch pulse (R160) with its own mode, operation and base cost. -/

namespace Sys2Proof.Machine

/-- `SBC (zp,X)`, opcode 0xE1 (R206). -/
def execSbcIzx (zp8 : Byte) (s : State) : Result :=
  runEntry .sbc (.izx zp8) s.config.sbc.izx s

/-- `SBC zp`, opcode 0xE5 (R201). -/
def execSbcZp0 (zp8 : Byte) (s : State) : Result :=
  runEntry .sbc (.zp0 zp8) s.config.sbc.zp0 s

/-- `SBC #imm`, opcode 0xE9 (R200). -/
def execSbcImm (imm8 : Byte) (s : State) : Result :=
  runEntry .sbc (.imm imm8) s.config.sbc.imm s

/-- `SBC abs`, opcode 0xED (R203). -/
def execSbcAbs (lo hi : Byte) (s : State) : Result :=
  runEntry .sbc (.abs lo hi) s.config.sbc.abs s

/-- `SBC (zp),Y`, opcode 0xF1 (R207). -/
def execSbcIzy (zp8 : Byte) (s : State) : Result :=
  runEntry .sbc (.izy zp8) s.config.sbc.izy s

/-- `SBC zp,X`, opcode 0xF5 (R202). -/
def execSbcZpx (zp8 : Byte) (s : State) : Result :=
  runEntry .sbc (.zpx zp8) s.config.sbc.zpx s

/-- `SBC abs,Y`, opcode 0xF9 (R205). -/
def execSbcAby (lo hi : Byte) (s : State) : Result :=
  runEntry .sbc (.aby lo hi) s.config.sbc.aby s

/-- `SBC abs,X`, opcode 0xFD (R204). -/
def execSbcAbx (lo hi : Byte) (s : State) : Result :=
  runEntry .sbc (.abx lo hi) s.config.sbc.abx s

end Sys2Proof.Machine
end

