-- ==== Sys2Proof/Machine/Unwired.lean ====
section
/-! DEFINITION. Machine/Unwired.lean: the meanings of the 135 unwired opcodes. The spec itself refuses each of them by name,
`refuse UnwiredOpcode(opcode, address)`, right after the opcode read (R160 step 3, R166, R222, R223, D3). -/

namespace Sys2Proof.Machine

/-- BRK, opcode 0x00, unwired (R222). -/
def execBrk (s : State) : Result := refuseUnwired 0x00#8 s

/-- ORA (zp,X), opcode 0x01, unwired (R222). -/
def execOraIzx (s : State) : Result := refuseUnwired 0x01#8 s

/-- ORA zp, opcode 0x05, unwired (R222). -/
def execOraZp0 (s : State) : Result := refuseUnwired 0x05#8 s

/-- ASL zp, opcode 0x06, unwired (R222). -/
def execAslZp0 (s : State) : Result := refuseUnwired 0x06#8 s

/-- PHP, opcode 0x08, unwired (R222). -/
def execPhp (s : State) : Result := refuseUnwired 0x08#8 s

/-- ORA #imm, opcode 0x09, unwired (R222). -/
def execOraImm (s : State) : Result := refuseUnwired 0x09#8 s

/-- ASL A, opcode 0x0A, unwired (R222). -/
def execAslAcc (s : State) : Result := refuseUnwired 0x0A#8 s

/-- ORA abs, opcode 0x0D, unwired (R222). -/
def execOraAbs (s : State) : Result := refuseUnwired 0x0D#8 s

/-- ASL abs, opcode 0x0E, unwired (R222). -/
def execAslAbs (s : State) : Result := refuseUnwired 0x0E#8 s

/-- BPL rel, opcode 0x10, unwired (R222). -/
def execBplRel (s : State) : Result := refuseUnwired 0x10#8 s

/-- ORA (zp),Y, opcode 0x11, unwired (R222). -/
def execOraIzy (s : State) : Result := refuseUnwired 0x11#8 s

/-- ORA zp,X, opcode 0x15, unwired (R222). -/
def execOraZpx (s : State) : Result := refuseUnwired 0x15#8 s

/-- ASL zp,X, opcode 0x16, unwired (R222). -/
def execAslZpx (s : State) : Result := refuseUnwired 0x16#8 s

/-- CLC, opcode 0x18, unwired (R222). -/
def execClc (s : State) : Result := refuseUnwired 0x18#8 s

/-- ORA abs,Y, opcode 0x19, unwired (R222). -/
def execOraAby (s : State) : Result := refuseUnwired 0x19#8 s

/-- ORA abs,X, opcode 0x1D, unwired (R222). -/
def execOraAbx (s : State) : Result := refuseUnwired 0x1D#8 s

/-- ASL abs,X, opcode 0x1E, unwired (R222). -/
def execAslAbx (s : State) : Result := refuseUnwired 0x1E#8 s

/-- JSR abs, opcode 0x20, unwired (R222). -/
def execJsrAbs (s : State) : Result := refuseUnwired 0x20#8 s

/-- AND (zp,X), opcode 0x21, unwired (R222). -/
def execAndIzx (s : State) : Result := refuseUnwired 0x21#8 s

/-- BIT zp, opcode 0x24, unwired (R222). -/
def execBitZp0 (s : State) : Result := refuseUnwired 0x24#8 s

/-- AND zp, opcode 0x25, unwired (R222). -/
def execAndZp0 (s : State) : Result := refuseUnwired 0x25#8 s

/-- ROL zp, opcode 0x26, unwired (R222). -/
def execRolZp0 (s : State) : Result := refuseUnwired 0x26#8 s

/-- PLP, opcode 0x28, unwired (R222). -/
def execPlp (s : State) : Result := refuseUnwired 0x28#8 s

/-- AND #imm, opcode 0x29, unwired (R222). -/
def execAndImm (s : State) : Result := refuseUnwired 0x29#8 s

/-- ROL A, opcode 0x2A, unwired (R222). -/
def execRolAcc (s : State) : Result := refuseUnwired 0x2A#8 s

/-- BIT abs, opcode 0x2C, unwired (R222). -/
def execBitAbs (s : State) : Result := refuseUnwired 0x2C#8 s

/-- AND abs, opcode 0x2D, unwired (R222). -/
def execAndAbs (s : State) : Result := refuseUnwired 0x2D#8 s

/-- ROL abs, opcode 0x2E, unwired (R222). -/
def execRolAbs (s : State) : Result := refuseUnwired 0x2E#8 s

/-- BMI rel, opcode 0x30, unwired (R222). -/
def execBmiRel (s : State) : Result := refuseUnwired 0x30#8 s

/-- AND (zp),Y, opcode 0x31, unwired (R222). -/
def execAndIzy (s : State) : Result := refuseUnwired 0x31#8 s

/-- AND zp,X, opcode 0x35, unwired (R222). -/
def execAndZpx (s : State) : Result := refuseUnwired 0x35#8 s

/-- ROL zp,X, opcode 0x36, unwired (R222). -/
def execRolZpx (s : State) : Result := refuseUnwired 0x36#8 s

/-- SEC, opcode 0x38, unwired (R222). -/
def execSec (s : State) : Result := refuseUnwired 0x38#8 s

/-- AND abs,Y, opcode 0x39, unwired (R222). -/
def execAndAby (s : State) : Result := refuseUnwired 0x39#8 s

/-- AND abs,X, opcode 0x3D, unwired (R222). -/
def execAndAbx (s : State) : Result := refuseUnwired 0x3D#8 s

/-- ROL abs,X, opcode 0x3E, unwired (R222). -/
def execRolAbx (s : State) : Result := refuseUnwired 0x3E#8 s

/-- RTI, opcode 0x40, unwired (R222). -/
def execRti (s : State) : Result := refuseUnwired 0x40#8 s

/-- EOR (zp,X), opcode 0x41, unwired (R222). -/
def execEorIzx (s : State) : Result := refuseUnwired 0x41#8 s

/-- EOR zp, opcode 0x45, unwired (R222). -/
def execEorZp0 (s : State) : Result := refuseUnwired 0x45#8 s

/-- LSR zp, opcode 0x46, unwired (R222). -/
def execLsrZp0 (s : State) : Result := refuseUnwired 0x46#8 s

/-- PHA, opcode 0x48, unwired (R222). -/
def execPha (s : State) : Result := refuseUnwired 0x48#8 s

/-- EOR #imm, opcode 0x49, unwired (R222). -/
def execEorImm (s : State) : Result := refuseUnwired 0x49#8 s

/-- LSR A, opcode 0x4A, unwired (R222). -/
def execLsrAcc (s : State) : Result := refuseUnwired 0x4A#8 s

/-- JMP abs, opcode 0x4C, unwired (R222). -/
def execJmpAbs (s : State) : Result := refuseUnwired 0x4C#8 s

/-- EOR abs, opcode 0x4D, unwired (R222). -/
def execEorAbs (s : State) : Result := refuseUnwired 0x4D#8 s

/-- LSR abs, opcode 0x4E, unwired (R222). -/
def execLsrAbs (s : State) : Result := refuseUnwired 0x4E#8 s

/-- BVC rel, opcode 0x50, unwired (R222). -/
def execBvcRel (s : State) : Result := refuseUnwired 0x50#8 s

/-- EOR (zp),Y, opcode 0x51, unwired (R222). -/
def execEorIzy (s : State) : Result := refuseUnwired 0x51#8 s

/-- EOR zp,X, opcode 0x55, unwired (R222). -/
def execEorZpx (s : State) : Result := refuseUnwired 0x55#8 s

/-- LSR zp,X, opcode 0x56, unwired (R222). -/
def execLsrZpx (s : State) : Result := refuseUnwired 0x56#8 s

/-- CLI, opcode 0x58, unwired (R222). -/
def execCli (s : State) : Result := refuseUnwired 0x58#8 s

/-- EOR abs,Y, opcode 0x59, unwired (R222). -/
def execEorAby (s : State) : Result := refuseUnwired 0x59#8 s

/-- EOR abs,X, opcode 0x5D, unwired (R222). -/
def execEorAbx (s : State) : Result := refuseUnwired 0x5D#8 s

/-- LSR abs,X, opcode 0x5E, unwired (R222). -/
def execLsrAbx (s : State) : Result := refuseUnwired 0x5E#8 s

/-- RTS, opcode 0x60, unwired (R222). -/
def execRts (s : State) : Result := refuseUnwired 0x60#8 s

/-- ROR zp, opcode 0x66, unwired (R222). -/
def execRorZp0 (s : State) : Result := refuseUnwired 0x66#8 s

/-- PLA, opcode 0x68, unwired (R222). -/
def execPla (s : State) : Result := refuseUnwired 0x68#8 s

/-- ROR A, opcode 0x6A, unwired (R222). -/
def execRorAcc (s : State) : Result := refuseUnwired 0x6A#8 s

/-- JMP (abs), opcode 0x6C, unwired (R222). -/
def execJmpInd (s : State) : Result := refuseUnwired 0x6C#8 s

/-- ROR abs, opcode 0x6E, unwired (R222). -/
def execRorAbs (s : State) : Result := refuseUnwired 0x6E#8 s

/-- BVS rel, opcode 0x70, unwired (R222). -/
def execBvsRel (s : State) : Result := refuseUnwired 0x70#8 s

/-- ROR zp,X, opcode 0x76, unwired (R222). -/
def execRorZpx (s : State) : Result := refuseUnwired 0x76#8 s

/-- SEI, opcode 0x78, unwired (R222). -/
def execSei (s : State) : Result := refuseUnwired 0x78#8 s

/-- ROR abs,X, opcode 0x7E, unwired (R222). -/
def execRorAbx (s : State) : Result := refuseUnwired 0x7E#8 s

/-- STA (zp,X), opcode 0x81, unwired (R222). -/
def execStaIzx (s : State) : Result := refuseUnwired 0x81#8 s

/-- STY zp, opcode 0x84, unwired (R222). -/
def execStyZp0 (s : State) : Result := refuseUnwired 0x84#8 s

/-- STA zp, opcode 0x85, unwired (R222). -/
def execStaZp0 (s : State) : Result := refuseUnwired 0x85#8 s

/-- STX zp, opcode 0x86, unwired (R222). -/
def execStxZp0 (s : State) : Result := refuseUnwired 0x86#8 s

/-- DEY, opcode 0x88, unwired (R222). -/
def execDey (s : State) : Result := refuseUnwired 0x88#8 s

/-- TXA, opcode 0x8A, unwired (R222). -/
def execTxa (s : State) : Result := refuseUnwired 0x8A#8 s

/-- STY abs, opcode 0x8C, unwired (R222). -/
def execStyAbs (s : State) : Result := refuseUnwired 0x8C#8 s

/-- STA abs, opcode 0x8D, unwired (R222). -/
def execStaAbs (s : State) : Result := refuseUnwired 0x8D#8 s

/-- STX abs, opcode 0x8E, unwired (R222). -/
def execStxAbs (s : State) : Result := refuseUnwired 0x8E#8 s

/-- BCC rel, opcode 0x90, unwired (R222). -/
def execBccRel (s : State) : Result := refuseUnwired 0x90#8 s

/-- STA (zp),Y, opcode 0x91, unwired (R222). -/
def execStaIzy (s : State) : Result := refuseUnwired 0x91#8 s

/-- STY zp,X, opcode 0x94, unwired (R222). -/
def execStyZpx (s : State) : Result := refuseUnwired 0x94#8 s

/-- STA zp,X, opcode 0x95, unwired (R222). -/
def execStaZpx (s : State) : Result := refuseUnwired 0x95#8 s

/-- STX zp,Y, opcode 0x96, unwired (R222). -/
def execStxZpy (s : State) : Result := refuseUnwired 0x96#8 s

/-- TYA, opcode 0x98, unwired (R222). -/
def execTya (s : State) : Result := refuseUnwired 0x98#8 s

/-- STA abs,Y, opcode 0x99, unwired (R222). -/
def execStaAby (s : State) : Result := refuseUnwired 0x99#8 s

/-- TXS, opcode 0x9A, unwired (R222). -/
def execTxs (s : State) : Result := refuseUnwired 0x9A#8 s

/-- STA abs,X, opcode 0x9D, unwired (R222). -/
def execStaAbx (s : State) : Result := refuseUnwired 0x9D#8 s

/-- LDY #imm, opcode 0xA0, unwired (R222). -/
def execLdyImm (s : State) : Result := refuseUnwired 0xA0#8 s

/-- LDA (zp,X), opcode 0xA1, unwired (R222). -/
def execLdaIzx (s : State) : Result := refuseUnwired 0xA1#8 s

/-- LDX #imm, opcode 0xA2, unwired (R222). -/
def execLdxImm (s : State) : Result := refuseUnwired 0xA2#8 s

/-- LDY zp, opcode 0xA4, unwired (R222). -/
def execLdyZp0 (s : State) : Result := refuseUnwired 0xA4#8 s

/-- LDA zp, opcode 0xA5, unwired (R222). -/
def execLdaZp0 (s : State) : Result := refuseUnwired 0xA5#8 s

/-- LDX zp, opcode 0xA6, unwired (R222). -/
def execLdxZp0 (s : State) : Result := refuseUnwired 0xA6#8 s

/-- TAY, opcode 0xA8, unwired (R222). -/
def execTay (s : State) : Result := refuseUnwired 0xA8#8 s

/-- LDA #imm, opcode 0xA9, unwired (R222). -/
def execLdaImm (s : State) : Result := refuseUnwired 0xA9#8 s

/-- TAX, opcode 0xAA, unwired (R222). -/
def execTax (s : State) : Result := refuseUnwired 0xAA#8 s

/-- LDY abs, opcode 0xAC, unwired (R222). -/
def execLdyAbs (s : State) : Result := refuseUnwired 0xAC#8 s

/-- LDA abs, opcode 0xAD, unwired (R222). -/
def execLdaAbs (s : State) : Result := refuseUnwired 0xAD#8 s

/-- LDX abs, opcode 0xAE, unwired (R222). -/
def execLdxAbs (s : State) : Result := refuseUnwired 0xAE#8 s

/-- BCS rel, opcode 0xB0, unwired (R222). -/
def execBcsRel (s : State) : Result := refuseUnwired 0xB0#8 s

/-- LDA (zp),Y, opcode 0xB1, unwired (R222). -/
def execLdaIzy (s : State) : Result := refuseUnwired 0xB1#8 s

/-- LDY zp,X, opcode 0xB4, unwired (R222). -/
def execLdyZpx (s : State) : Result := refuseUnwired 0xB4#8 s

/-- LDA zp,X, opcode 0xB5, unwired (R222). -/
def execLdaZpx (s : State) : Result := refuseUnwired 0xB5#8 s

/-- LDX zp,Y, opcode 0xB6, unwired (R222). -/
def execLdxZpy (s : State) : Result := refuseUnwired 0xB6#8 s

/-- CLV, opcode 0xB8, unwired (R222). -/
def execClv (s : State) : Result := refuseUnwired 0xB8#8 s

/-- LDA abs,Y, opcode 0xB9, unwired (R222). -/
def execLdaAby (s : State) : Result := refuseUnwired 0xB9#8 s

/-- TSX, opcode 0xBA, unwired (R222). -/
def execTsx (s : State) : Result := refuseUnwired 0xBA#8 s

/-- LDY abs,X, opcode 0xBC, unwired (R222). -/
def execLdyAbx (s : State) : Result := refuseUnwired 0xBC#8 s

/-- LDA abs,X, opcode 0xBD, unwired (R222). -/
def execLdaAbx (s : State) : Result := refuseUnwired 0xBD#8 s

/-- LDX abs,Y, opcode 0xBE, unwired (R222). -/
def execLdxAby (s : State) : Result := refuseUnwired 0xBE#8 s

/-- CPY #imm, opcode 0xC0, unwired (R222). -/
def execCpyImm (s : State) : Result := refuseUnwired 0xC0#8 s

/-- CMP (zp,X), opcode 0xC1, unwired (R222). -/
def execCmpIzx (s : State) : Result := refuseUnwired 0xC1#8 s

/-- CPY zp, opcode 0xC4, unwired (R222). -/
def execCpyZp0 (s : State) : Result := refuseUnwired 0xC4#8 s

/-- CMP zp, opcode 0xC5, unwired (R222). -/
def execCmpZp0 (s : State) : Result := refuseUnwired 0xC5#8 s

/-- DEC zp, opcode 0xC6, unwired (R222). -/
def execDecZp0 (s : State) : Result := refuseUnwired 0xC6#8 s

/-- INY, opcode 0xC8, unwired (R222). -/
def execIny (s : State) : Result := refuseUnwired 0xC8#8 s

/-- CMP #imm, opcode 0xC9, unwired (R222). -/
def execCmpImm (s : State) : Result := refuseUnwired 0xC9#8 s

/-- DEX, opcode 0xCA, unwired (R222). -/
def execDex (s : State) : Result := refuseUnwired 0xCA#8 s

/-- CPY abs, opcode 0xCC, unwired (R222). -/
def execCpyAbs (s : State) : Result := refuseUnwired 0xCC#8 s

/-- CMP abs, opcode 0xCD, unwired (R222). -/
def execCmpAbs (s : State) : Result := refuseUnwired 0xCD#8 s

/-- DEC abs, opcode 0xCE, unwired (R222). -/
def execDecAbs (s : State) : Result := refuseUnwired 0xCE#8 s

/-- BNE rel, opcode 0xD0, unwired (R222). -/
def execBneRel (s : State) : Result := refuseUnwired 0xD0#8 s

/-- CMP (zp),Y, opcode 0xD1, unwired (R222). -/
def execCmpIzy (s : State) : Result := refuseUnwired 0xD1#8 s

/-- CMP zp,X, opcode 0xD5, unwired (R222). -/
def execCmpZpx (s : State) : Result := refuseUnwired 0xD5#8 s

/-- DEC zp,X, opcode 0xD6, unwired (R222). -/
def execDecZpx (s : State) : Result := refuseUnwired 0xD6#8 s

/-- CLD, opcode 0xD8, unwired (R222). -/
def execCld (s : State) : Result := refuseUnwired 0xD8#8 s

/-- CMP abs,Y, opcode 0xD9, unwired (R222). -/
def execCmpAby (s : State) : Result := refuseUnwired 0xD9#8 s

/-- CMP abs,X, opcode 0xDD, unwired (R222). -/
def execCmpAbx (s : State) : Result := refuseUnwired 0xDD#8 s

/-- DEC abs,X, opcode 0xDE, unwired (R222). -/
def execDecAbx (s : State) : Result := refuseUnwired 0xDE#8 s

/-- CPX #imm, opcode 0xE0, unwired (R222). -/
def execCpxImm (s : State) : Result := refuseUnwired 0xE0#8 s

/-- CPX zp, opcode 0xE4, unwired (R222). -/
def execCpxZp0 (s : State) : Result := refuseUnwired 0xE4#8 s

/-- INC zp, opcode 0xE6, unwired (R222). -/
def execIncZp0 (s : State) : Result := refuseUnwired 0xE6#8 s

/-- INX, opcode 0xE8, unwired (R222). -/
def execInx (s : State) : Result := refuseUnwired 0xE8#8 s

/-- NOP, opcode 0xEA, unwired (R222). -/
def execNop (s : State) : Result := refuseUnwired 0xEA#8 s

/-- CPX abs, opcode 0xEC, unwired (R222). -/
def execCpxAbs (s : State) : Result := refuseUnwired 0xEC#8 s

/-- INC abs, opcode 0xEE, unwired (R222). -/
def execIncAbs (s : State) : Result := refuseUnwired 0xEE#8 s

/-- BEQ rel, opcode 0xF0, unwired (R222). -/
def execBeqRel (s : State) : Result := refuseUnwired 0xF0#8 s

/-- INC zp,X, opcode 0xF6, unwired (R222). -/
def execIncZpx (s : State) : Result := refuseUnwired 0xF6#8 s

/-- SED, opcode 0xF8, unwired (R222). -/
def execSed (s : State) : Result := refuseUnwired 0xF8#8 s

/-- INC abs,X, opcode 0xFE, unwired (R222). -/
def execIncAbx (s : State) : Result := refuseUnwired 0xFE#8 s

end Sys2Proof.Machine
end

