-- ==== Sys2Proof/Machine/Dispatch.lean ====
section
/-! DEFINITION. Machine/Dispatch.lean: one arm a constructor of Instr, each one call of its meaning. -/

namespace Sys2Proof.Machine

def exec (i : Instr) (s : State) : Host.Outcome State Fault Refusal :=
  match i with
  | .brk => Sys2Proof.Machine.execBrk s
  | .oraIzx => Sys2Proof.Machine.execOraIzx s
  | .fill02 => Sys2Proof.Machine.execFill02 s
  | .fill03 => Sys2Proof.Machine.execFill03 s
  | .fill04 => Sys2Proof.Machine.execFill04 s
  | .oraZp0 => Sys2Proof.Machine.execOraZp0 s
  | .aslZp0 => Sys2Proof.Machine.execAslZp0 s
  | .fill07 => Sys2Proof.Machine.execFill07 s
  | .php => Sys2Proof.Machine.execPhp s
  | .oraImm => Sys2Proof.Machine.execOraImm s
  | .aslAcc => Sys2Proof.Machine.execAslAcc s
  | .fill0B => Sys2Proof.Machine.execFill0B s
  | .fill0C => Sys2Proof.Machine.execFill0C s
  | .oraAbs => Sys2Proof.Machine.execOraAbs s
  | .aslAbs => Sys2Proof.Machine.execAslAbs s
  | .fill0F => Sys2Proof.Machine.execFill0F s
  | .bplRel => Sys2Proof.Machine.execBplRel s
  | .oraIzy => Sys2Proof.Machine.execOraIzy s
  | .fill12 => Sys2Proof.Machine.execFill12 s
  | .fill13 => Sys2Proof.Machine.execFill13 s
  | .fill14 => Sys2Proof.Machine.execFill14 s
  | .oraZpx => Sys2Proof.Machine.execOraZpx s
  | .aslZpx => Sys2Proof.Machine.execAslZpx s
  | .fill17 => Sys2Proof.Machine.execFill17 s
  | .clc => Sys2Proof.Machine.execClc s
  | .oraAby => Sys2Proof.Machine.execOraAby s
  | .fill1A => Sys2Proof.Machine.execFill1A s
  | .fill1B => Sys2Proof.Machine.execFill1B s
  | .fill1C => Sys2Proof.Machine.execFill1C s
  | .oraAbx => Sys2Proof.Machine.execOraAbx s
  | .aslAbx => Sys2Proof.Machine.execAslAbx s
  | .fill1F => Sys2Proof.Machine.execFill1F s
  | .jsrAbs => Sys2Proof.Machine.execJsrAbs s
  | .andIzx => Sys2Proof.Machine.execAndIzx s
  | .fill22 => Sys2Proof.Machine.execFill22 s
  | .fill23 => Sys2Proof.Machine.execFill23 s
  | .bitZp0 => Sys2Proof.Machine.execBitZp0 s
  | .andZp0 => Sys2Proof.Machine.execAndZp0 s
  | .rolZp0 => Sys2Proof.Machine.execRolZp0 s
  | .fill27 => Sys2Proof.Machine.execFill27 s
  | .plp => Sys2Proof.Machine.execPlp s
  | .andImm => Sys2Proof.Machine.execAndImm s
  | .rolAcc => Sys2Proof.Machine.execRolAcc s
  | .fill2B => Sys2Proof.Machine.execFill2B s
  | .bitAbs => Sys2Proof.Machine.execBitAbs s
  | .andAbs => Sys2Proof.Machine.execAndAbs s
  | .rolAbs => Sys2Proof.Machine.execRolAbs s
  | .fill2F => Sys2Proof.Machine.execFill2F s
  | .bmiRel => Sys2Proof.Machine.execBmiRel s
  | .andIzy => Sys2Proof.Machine.execAndIzy s
  | .fill32 => Sys2Proof.Machine.execFill32 s
  | .fill33 => Sys2Proof.Machine.execFill33 s
  | .fill34 => Sys2Proof.Machine.execFill34 s
  | .andZpx => Sys2Proof.Machine.execAndZpx s
  | .rolZpx => Sys2Proof.Machine.execRolZpx s
  | .fill37 => Sys2Proof.Machine.execFill37 s
  | .sec => Sys2Proof.Machine.execSec s
  | .andAby => Sys2Proof.Machine.execAndAby s
  | .fill3A => Sys2Proof.Machine.execFill3A s
  | .fill3B => Sys2Proof.Machine.execFill3B s
  | .fill3C => Sys2Proof.Machine.execFill3C s
  | .andAbx => Sys2Proof.Machine.execAndAbx s
  | .rolAbx => Sys2Proof.Machine.execRolAbx s
  | .fill3F => Sys2Proof.Machine.execFill3F s
  | .rti => Sys2Proof.Machine.execRti s
  | .eorIzx => Sys2Proof.Machine.execEorIzx s
  | .fill42 => Sys2Proof.Machine.execFill42 s
  | .fill43 => Sys2Proof.Machine.execFill43 s
  | .fill44 => Sys2Proof.Machine.execFill44 s
  | .eorZp0 => Sys2Proof.Machine.execEorZp0 s
  | .lsrZp0 => Sys2Proof.Machine.execLsrZp0 s
  | .fill47 => Sys2Proof.Machine.execFill47 s
  | .pha => Sys2Proof.Machine.execPha s
  | .eorImm => Sys2Proof.Machine.execEorImm s
  | .lsrAcc => Sys2Proof.Machine.execLsrAcc s
  | .fill4B => Sys2Proof.Machine.execFill4B s
  | .jmpAbs => Sys2Proof.Machine.execJmpAbs s
  | .eorAbs => Sys2Proof.Machine.execEorAbs s
  | .lsrAbs => Sys2Proof.Machine.execLsrAbs s
  | .fill4F => Sys2Proof.Machine.execFill4F s
  | .bvcRel => Sys2Proof.Machine.execBvcRel s
  | .eorIzy => Sys2Proof.Machine.execEorIzy s
  | .fill52 => Sys2Proof.Machine.execFill52 s
  | .fill53 => Sys2Proof.Machine.execFill53 s
  | .fill54 => Sys2Proof.Machine.execFill54 s
  | .eorZpx => Sys2Proof.Machine.execEorZpx s
  | .lsrZpx => Sys2Proof.Machine.execLsrZpx s
  | .fill57 => Sys2Proof.Machine.execFill57 s
  | .cli => Sys2Proof.Machine.execCli s
  | .eorAby => Sys2Proof.Machine.execEorAby s
  | .fill5A => Sys2Proof.Machine.execFill5A s
  | .fill5B => Sys2Proof.Machine.execFill5B s
  | .fill5C => Sys2Proof.Machine.execFill5C s
  | .eorAbx => Sys2Proof.Machine.execEorAbx s
  | .lsrAbx => Sys2Proof.Machine.execLsrAbx s
  | .fill5F => Sys2Proof.Machine.execFill5F s
  | .rts => Sys2Proof.Machine.execRts s
  | .adcIzx zp8 => Sys2Proof.Machine.execAdcIzx zp8 s
  | .fill62 => Sys2Proof.Machine.execFill62 s
  | .fill63 => Sys2Proof.Machine.execFill63 s
  | .fill64 => Sys2Proof.Machine.execFill64 s
  | .adcZp0 zp8 => Sys2Proof.Machine.execAdcZp0 zp8 s
  | .rorZp0 => Sys2Proof.Machine.execRorZp0 s
  | .fill67 => Sys2Proof.Machine.execFill67 s
  | .pla => Sys2Proof.Machine.execPla s
  | .adcImm imm8 => Sys2Proof.Machine.execAdcImm imm8 s
  | .rorAcc => Sys2Proof.Machine.execRorAcc s
  | .fill6B => Sys2Proof.Machine.execFill6B s
  | .jmpInd => Sys2Proof.Machine.execJmpInd s
  | .adcAbs lo hi => Sys2Proof.Machine.execAdcAbs lo hi s
  | .rorAbs => Sys2Proof.Machine.execRorAbs s
  | .fill6F => Sys2Proof.Machine.execFill6F s
  | .bvsRel => Sys2Proof.Machine.execBvsRel s
  | .adcIzy zp8 => Sys2Proof.Machine.execAdcIzy zp8 s
  | .fill72 => Sys2Proof.Machine.execFill72 s
  | .fill73 => Sys2Proof.Machine.execFill73 s
  | .fill74 => Sys2Proof.Machine.execFill74 s
  | .adcZpx zp8 => Sys2Proof.Machine.execAdcZpx zp8 s
  | .rorZpx => Sys2Proof.Machine.execRorZpx s
  | .fill77 => Sys2Proof.Machine.execFill77 s
  | .sei => Sys2Proof.Machine.execSei s
  | .adcAby lo hi => Sys2Proof.Machine.execAdcAby lo hi s
  | .fill7A => Sys2Proof.Machine.execFill7A s
  | .fill7B => Sys2Proof.Machine.execFill7B s
  | .fill7C => Sys2Proof.Machine.execFill7C s
  | .adcAbx lo hi => Sys2Proof.Machine.execAdcAbx lo hi s
  | .rorAbx => Sys2Proof.Machine.execRorAbx s
  | .fill7F => Sys2Proof.Machine.execFill7F s
  | .fill80 => Sys2Proof.Machine.execFill80 s
  | .staIzx => Sys2Proof.Machine.execStaIzx s
  | .fill82 => Sys2Proof.Machine.execFill82 s
  | .fill83 => Sys2Proof.Machine.execFill83 s
  | .styZp0 => Sys2Proof.Machine.execStyZp0 s
  | .staZp0 => Sys2Proof.Machine.execStaZp0 s
  | .stxZp0 => Sys2Proof.Machine.execStxZp0 s
  | .fill87 => Sys2Proof.Machine.execFill87 s
  | .dey => Sys2Proof.Machine.execDey s
  | .fill89 => Sys2Proof.Machine.execFill89 s
  | .txa => Sys2Proof.Machine.execTxa s
  | .fill8B => Sys2Proof.Machine.execFill8B s
  | .styAbs => Sys2Proof.Machine.execStyAbs s
  | .staAbs => Sys2Proof.Machine.execStaAbs s
  | .stxAbs => Sys2Proof.Machine.execStxAbs s
  | .fill8F => Sys2Proof.Machine.execFill8F s
  | .bccRel => Sys2Proof.Machine.execBccRel s
  | .staIzy => Sys2Proof.Machine.execStaIzy s
  | .fill92 => Sys2Proof.Machine.execFill92 s
  | .fill93 => Sys2Proof.Machine.execFill93 s
  | .styZpx => Sys2Proof.Machine.execStyZpx s
  | .staZpx => Sys2Proof.Machine.execStaZpx s
  | .stxZpy => Sys2Proof.Machine.execStxZpy s
  | .fill97 => Sys2Proof.Machine.execFill97 s
  | .tya => Sys2Proof.Machine.execTya s
  | .staAby => Sys2Proof.Machine.execStaAby s
  | .txs => Sys2Proof.Machine.execTxs s
  | .fill9B => Sys2Proof.Machine.execFill9B s
  | .fill9C => Sys2Proof.Machine.execFill9C s
  | .staAbx => Sys2Proof.Machine.execStaAbx s
  | .fill9E => Sys2Proof.Machine.execFill9E s
  | .fill9F => Sys2Proof.Machine.execFill9F s
  | .ldyImm => Sys2Proof.Machine.execLdyImm s
  | .ldaIzx => Sys2Proof.Machine.execLdaIzx s
  | .ldxImm => Sys2Proof.Machine.execLdxImm s
  | .fillA3 => Sys2Proof.Machine.execFillA3 s
  | .ldyZp0 => Sys2Proof.Machine.execLdyZp0 s
  | .ldaZp0 => Sys2Proof.Machine.execLdaZp0 s
  | .ldxZp0 => Sys2Proof.Machine.execLdxZp0 s
  | .fillA7 => Sys2Proof.Machine.execFillA7 s
  | .tay => Sys2Proof.Machine.execTay s
  | .ldaImm => Sys2Proof.Machine.execLdaImm s
  | .tax => Sys2Proof.Machine.execTax s
  | .fillAB => Sys2Proof.Machine.execFillAB s
  | .ldyAbs => Sys2Proof.Machine.execLdyAbs s
  | .ldaAbs => Sys2Proof.Machine.execLdaAbs s
  | .ldxAbs => Sys2Proof.Machine.execLdxAbs s
  | .fillAF => Sys2Proof.Machine.execFillAF s
  | .bcsRel => Sys2Proof.Machine.execBcsRel s
  | .ldaIzy => Sys2Proof.Machine.execLdaIzy s
  | .fillB2 => Sys2Proof.Machine.execFillB2 s
  | .fillB3 => Sys2Proof.Machine.execFillB3 s
  | .ldyZpx => Sys2Proof.Machine.execLdyZpx s
  | .ldaZpx => Sys2Proof.Machine.execLdaZpx s
  | .ldxZpy => Sys2Proof.Machine.execLdxZpy s
  | .fillB7 => Sys2Proof.Machine.execFillB7 s
  | .clv => Sys2Proof.Machine.execClv s
  | .ldaAby => Sys2Proof.Machine.execLdaAby s
  | .tsx => Sys2Proof.Machine.execTsx s
  | .fillBB => Sys2Proof.Machine.execFillBB s
  | .ldyAbx => Sys2Proof.Machine.execLdyAbx s
  | .ldaAbx => Sys2Proof.Machine.execLdaAbx s
  | .ldxAby => Sys2Proof.Machine.execLdxAby s
  | .fillBF => Sys2Proof.Machine.execFillBF s
  | .cpyImm => Sys2Proof.Machine.execCpyImm s
  | .cmpIzx => Sys2Proof.Machine.execCmpIzx s
  | .fillC2 => Sys2Proof.Machine.execFillC2 s
  | .fillC3 => Sys2Proof.Machine.execFillC3 s
  | .cpyZp0 => Sys2Proof.Machine.execCpyZp0 s
  | .cmpZp0 => Sys2Proof.Machine.execCmpZp0 s
  | .decZp0 => Sys2Proof.Machine.execDecZp0 s
  | .fillC7 => Sys2Proof.Machine.execFillC7 s
  | .iny => Sys2Proof.Machine.execIny s
  | .cmpImm => Sys2Proof.Machine.execCmpImm s
  | .dex => Sys2Proof.Machine.execDex s
  | .fillCB => Sys2Proof.Machine.execFillCB s
  | .cpyAbs => Sys2Proof.Machine.execCpyAbs s
  | .cmpAbs => Sys2Proof.Machine.execCmpAbs s
  | .decAbs => Sys2Proof.Machine.execDecAbs s
  | .fillCF => Sys2Proof.Machine.execFillCF s
  | .bneRel => Sys2Proof.Machine.execBneRel s
  | .cmpIzy => Sys2Proof.Machine.execCmpIzy s
  | .fillD2 => Sys2Proof.Machine.execFillD2 s
  | .fillD3 => Sys2Proof.Machine.execFillD3 s
  | .fillD4 => Sys2Proof.Machine.execFillD4 s
  | .cmpZpx => Sys2Proof.Machine.execCmpZpx s
  | .decZpx => Sys2Proof.Machine.execDecZpx s
  | .fillD7 => Sys2Proof.Machine.execFillD7 s
  | .cld => Sys2Proof.Machine.execCld s
  | .cmpAby => Sys2Proof.Machine.execCmpAby s
  | .fillDA => Sys2Proof.Machine.execFillDA s
  | .fillDB => Sys2Proof.Machine.execFillDB s
  | .fillDC => Sys2Proof.Machine.execFillDC s
  | .cmpAbx => Sys2Proof.Machine.execCmpAbx s
  | .decAbx => Sys2Proof.Machine.execDecAbx s
  | .fillDF => Sys2Proof.Machine.execFillDF s
  | .cpxImm => Sys2Proof.Machine.execCpxImm s
  | .sbcIzx zp8 => Sys2Proof.Machine.execSbcIzx zp8 s
  | .fillE2 => Sys2Proof.Machine.execFillE2 s
  | .fillE3 => Sys2Proof.Machine.execFillE3 s
  | .cpxZp0 => Sys2Proof.Machine.execCpxZp0 s
  | .sbcZp0 zp8 => Sys2Proof.Machine.execSbcZp0 zp8 s
  | .incZp0 => Sys2Proof.Machine.execIncZp0 s
  | .fillE7 => Sys2Proof.Machine.execFillE7 s
  | .inx => Sys2Proof.Machine.execInx s
  | .sbcImm imm8 => Sys2Proof.Machine.execSbcImm imm8 s
  | .nop => Sys2Proof.Machine.execNop s
  | .fillEB => Sys2Proof.Machine.execFillEB s
  | .cpxAbs => Sys2Proof.Machine.execCpxAbs s
  | .sbcAbs lo hi => Sys2Proof.Machine.execSbcAbs lo hi s
  | .incAbs => Sys2Proof.Machine.execIncAbs s
  | .fillEF => Sys2Proof.Machine.execFillEF s
  | .beqRel => Sys2Proof.Machine.execBeqRel s
  | .sbcIzy zp8 => Sys2Proof.Machine.execSbcIzy zp8 s
  | .fillF2 => Sys2Proof.Machine.execFillF2 s
  | .fillF3 => Sys2Proof.Machine.execFillF3 s
  | .fillF4 => Sys2Proof.Machine.execFillF4 s
  | .sbcZpx zp8 => Sys2Proof.Machine.execSbcZpx zp8 s
  | .incZpx => Sys2Proof.Machine.execIncZpx s
  | .fillF7 => Sys2Proof.Machine.execFillF7 s
  | .sed => Sys2Proof.Machine.execSed s
  | .sbcAby lo hi => Sys2Proof.Machine.execSbcAby lo hi s
  | .fillFA => Sys2Proof.Machine.execFillFA s
  | .fillFB => Sys2Proof.Machine.execFillFB s
  | .fillFC => Sys2Proof.Machine.execFillFC s
  | .sbcAbx lo hi => Sys2Proof.Machine.execSbcAbx lo hi s
  | .incAbx => Sys2Proof.Machine.execIncAbx s
  | .fillFF => Sys2Proof.Machine.execFillFF s

end Sys2Proof.Machine
end

