-- ==== Sys2Proof/Decode.lean ====
section
/-! DEFINITION. Decode.lean: from bytes to an instruction, by one lookup on the first byte (R80, R82, R84), and the encoder
from instructions to bytes (R81). -/

namespace Sys2Proof

/-- Why a list of bytes is no instruction. Every opcode byte is one of the table's (R84, R88), so the only reasons are too few
bytes. -/
inductive DecodeError where
  /-- There is no opcode byte. -/
  | noOpcode
  /-- The opcode asks for more operand bytes than follow it (R82). -/
  | truncated (opcode : Byte)
  deriving DecidableEq, Repr

/-- The format an opcode byte selects: no operand byte (F1), one (F2) or two, low byte first (F3) (R81). -/
inductive Format where
  | f1 (i : Instr)
  | f2 (i : Byte → Instr)
  | f3 (i : Byte → Byte → Instr)

/-- Opcode bytes 0x00 to 0x0F (R86). -/
def formatRow0 : List Format :=
  [.f1 .brk, .f1 .oraIzx, .f1 .fill02, .f1 .fill03, .f1 .fill04, .f1 .oraZp0, .f1 .aslZp0, .f1 .fill07,
   .f1 .php, .f1 .oraImm, .f1 .aslAcc, .f1 .fill0B, .f1 .fill0C, .f1 .oraAbs, .f1 .aslAbs, .f1 .fill0F]

/-- Opcode bytes 0x10 to 0x1F (R86). -/
def formatRow1 : List Format :=
  [.f1 .bplRel, .f1 .oraIzy, .f1 .fill12, .f1 .fill13, .f1 .fill14, .f1 .oraZpx, .f1 .aslZpx, .f1 .fill17,
   .f1 .clc, .f1 .oraAby, .f1 .fill1A, .f1 .fill1B, .f1 .fill1C, .f1 .oraAbx, .f1 .aslAbx, .f1 .fill1F]

/-- Opcode bytes 0x20 to 0x2F (R86). -/
def formatRow2 : List Format :=
  [.f1 .jsrAbs, .f1 .andIzx, .f1 .fill22, .f1 .fill23, .f1 .bitZp0, .f1 .andZp0, .f1 .rolZp0, .f1 .fill27,
   .f1 .plp, .f1 .andImm, .f1 .rolAcc, .f1 .fill2B, .f1 .bitAbs, .f1 .andAbs, .f1 .rolAbs, .f1 .fill2F]

/-- Opcode bytes 0x30 to 0x3F (R86). -/
def formatRow3 : List Format :=
  [.f1 .bmiRel, .f1 .andIzy, .f1 .fill32, .f1 .fill33, .f1 .fill34, .f1 .andZpx, .f1 .rolZpx, .f1 .fill37,
   .f1 .sec, .f1 .andAby, .f1 .fill3A, .f1 .fill3B, .f1 .fill3C, .f1 .andAbx, .f1 .rolAbx, .f1 .fill3F]

/-- Opcode bytes 0x40 to 0x4F (R86). -/
def formatRow4 : List Format :=
  [.f1 .rti, .f1 .eorIzx, .f1 .fill42, .f1 .fill43, .f1 .fill44, .f1 .eorZp0, .f1 .lsrZp0, .f1 .fill47,
   .f1 .pha, .f1 .eorImm, .f1 .lsrAcc, .f1 .fill4B, .f1 .jmpAbs, .f1 .eorAbs, .f1 .lsrAbs, .f1 .fill4F]

/-- Opcode bytes 0x50 to 0x5F (R86). -/
def formatRow5 : List Format :=
  [.f1 .bvcRel, .f1 .eorIzy, .f1 .fill52, .f1 .fill53, .f1 .fill54, .f1 .eorZpx, .f1 .lsrZpx, .f1 .fill57,
   .f1 .cli, .f1 .eorAby, .f1 .fill5A, .f1 .fill5B, .f1 .fill5C, .f1 .eorAbx, .f1 .lsrAbx, .f1 .fill5F]

/-- Opcode bytes 0x60 to 0x6F (R86). -/
def formatRow6 : List Format :=
  [.f1 .rts, .f2 .adcIzx, .f1 .fill62, .f1 .fill63, .f1 .fill64, .f2 .adcZp0, .f1 .rorZp0, .f1 .fill67,
   .f1 .pla, .f2 .adcImm, .f1 .rorAcc, .f1 .fill6B, .f1 .jmpInd, .f3 .adcAbs, .f1 .rorAbs, .f1 .fill6F]

/-- Opcode bytes 0x70 to 0x7F (R86). -/
def formatRow7 : List Format :=
  [.f1 .bvsRel, .f2 .adcIzy, .f1 .fill72, .f1 .fill73, .f1 .fill74, .f2 .adcZpx, .f1 .rorZpx, .f1 .fill77,
   .f1 .sei, .f3 .adcAby, .f1 .fill7A, .f1 .fill7B, .f1 .fill7C, .f3 .adcAbx, .f1 .rorAbx, .f1 .fill7F]

/-- Opcode bytes 0x80 to 0x8F (R86). -/
def formatRow8 : List Format :=
  [.f1 .fill80, .f1 .staIzx, .f1 .fill82, .f1 .fill83, .f1 .styZp0, .f1 .staZp0, .f1 .stxZp0, .f1 .fill87,
   .f1 .dey, .f1 .fill89, .f1 .txa, .f1 .fill8B, .f1 .styAbs, .f1 .staAbs, .f1 .stxAbs, .f1 .fill8F]

/-- Opcode bytes 0x90 to 0x9F (R86). -/
def formatRow9 : List Format :=
  [.f1 .bccRel, .f1 .staIzy, .f1 .fill92, .f1 .fill93, .f1 .styZpx, .f1 .staZpx, .f1 .stxZpy, .f1 .fill97,
   .f1 .tya, .f1 .staAby, .f1 .txs, .f1 .fill9B, .f1 .fill9C, .f1 .staAbx, .f1 .fill9E, .f1 .fill9F]

/-- Opcode bytes 0xA0 to 0xAF (R86). -/
def formatRowA : List Format :=
  [.f1 .ldyImm, .f1 .ldaIzx, .f1 .ldxImm, .f1 .fillA3, .f1 .ldyZp0, .f1 .ldaZp0, .f1 .ldxZp0, .f1 .fillA7,
   .f1 .tay, .f1 .ldaImm, .f1 .tax, .f1 .fillAB, .f1 .ldyAbs, .f1 .ldaAbs, .f1 .ldxAbs, .f1 .fillAF]

/-- Opcode bytes 0xB0 to 0xBF (R86). -/
def formatRowB : List Format :=
  [.f1 .bcsRel, .f1 .ldaIzy, .f1 .fillB2, .f1 .fillB3, .f1 .ldyZpx, .f1 .ldaZpx, .f1 .ldxZpy, .f1 .fillB7,
   .f1 .clv, .f1 .ldaAby, .f1 .tsx, .f1 .fillBB, .f1 .ldyAbx, .f1 .ldaAbx, .f1 .ldxAby, .f1 .fillBF]

/-- Opcode bytes 0xC0 to 0xCF (R86). -/
def formatRowC : List Format :=
  [.f1 .cpyImm, .f1 .cmpIzx, .f1 .fillC2, .f1 .fillC3, .f1 .cpyZp0, .f1 .cmpZp0, .f1 .decZp0, .f1 .fillC7,
   .f1 .iny, .f1 .cmpImm, .f1 .dex, .f1 .fillCB, .f1 .cpyAbs, .f1 .cmpAbs, .f1 .decAbs, .f1 .fillCF]

/-- Opcode bytes 0xD0 to 0xDF (R86). -/
def formatRowD : List Format :=
  [.f1 .bneRel, .f1 .cmpIzy, .f1 .fillD2, .f1 .fillD3, .f1 .fillD4, .f1 .cmpZpx, .f1 .decZpx, .f1 .fillD7,
   .f1 .cld, .f1 .cmpAby, .f1 .fillDA, .f1 .fillDB, .f1 .fillDC, .f1 .cmpAbx, .f1 .decAbx, .f1 .fillDF]

/-- Opcode bytes 0xE0 to 0xEF (R86). -/
def formatRowE : List Format :=
  [.f1 .cpxImm, .f2 .sbcIzx, .f1 .fillE2, .f1 .fillE3, .f1 .cpxZp0, .f2 .sbcZp0, .f1 .incZp0, .f1 .fillE7,
   .f1 .inx, .f2 .sbcImm, .f1 .nop, .f1 .fillEB, .f1 .cpxAbs, .f3 .sbcAbs, .f1 .incAbs, .f1 .fillEF]

/-- Opcode bytes 0xF0 to 0xFF (R86). -/
def formatRowF : List Format :=
  [.f1 .beqRel, .f2 .sbcIzy, .f1 .fillF2, .f1 .fillF3, .f1 .fillF4, .f2 .sbcZpx, .f1 .incZpx, .f1 .fillF7,
   .f1 .sed, .f3 .sbcAby, .f1 .fillFA, .f1 .fillFB, .f1 .fillFC, .f3 .sbcAbx, .f1 .incAbx, .f1 .fillFF]

/-- The rows of R86's map, by the high nibble of the opcode byte. -/
def formatRows : List (List Format) :=
  [formatRow0, formatRow1, formatRow2, formatRow3, formatRow4, formatRow5, formatRow6, formatRow7] ++
  [formatRow8, formatRow9, formatRowA, formatRowB, formatRowC, formatRowD, formatRowE, formatRowF]

/-- The one lookup of decoding (R84): row by the high nibble, column by the low nibble. The defaults are never met. -/
def formatOf (opcode : Byte) : Format :=
  (formatRows.getD (opcode.toNat / 16) []).getD (opcode.toNat % 16) (.f1 .nop)

/-- The instruction a list of bytes begins with, and the bytes after it (R80 to R82). -/
def decode : List Byte → Except DecodeError (Instr × List Byte)
  | [] => .error .noOpcode
  | opcode :: rest =>
    match formatOf opcode with
    | .f1 i => .ok (i, rest)
    | .f2 i =>
      match rest with
      | b1 :: rest' => .ok (i b1, rest')
      | [] => .error (.truncated opcode)
    | .f3 i =>
      match rest with
      | lo :: hi :: rest' => .ok (i lo hi, rest')
      | [_] => .error (.truncated opcode)
      | [] => .error (.truncated opcode)

/-- How many operand bytes follow an opcode byte (R82). -/
def operandCount (opcode : Byte) : Nat :=
  match formatOf opcode with
  | .f1 _ => 0
  | .f2 _ => 1
  | .f3 _ => 2

/-- The bytes of an instruction, opcode byte first, then its operand bytes in the order of their addresses (R81). -/
def encode : Instr → List Byte
  | .brk => [0x00#8]
  | .oraIzx => [0x01#8]
  | .fill02 => [0x02#8]
  | .fill03 => [0x03#8]
  | .fill04 => [0x04#8]
  | .oraZp0 => [0x05#8]
  | .aslZp0 => [0x06#8]
  | .fill07 => [0x07#8]
  | .php => [0x08#8]
  | .oraImm => [0x09#8]
  | .aslAcc => [0x0A#8]
  | .fill0B => [0x0B#8]
  | .fill0C => [0x0C#8]
  | .oraAbs => [0x0D#8]
  | .aslAbs => [0x0E#8]
  | .fill0F => [0x0F#8]
  | .bplRel => [0x10#8]
  | .oraIzy => [0x11#8]
  | .fill12 => [0x12#8]
  | .fill13 => [0x13#8]
  | .fill14 => [0x14#8]
  | .oraZpx => [0x15#8]
  | .aslZpx => [0x16#8]
  | .fill17 => [0x17#8]
  | .clc => [0x18#8]
  | .oraAby => [0x19#8]
  | .fill1A => [0x1A#8]
  | .fill1B => [0x1B#8]
  | .fill1C => [0x1C#8]
  | .oraAbx => [0x1D#8]
  | .aslAbx => [0x1E#8]
  | .fill1F => [0x1F#8]
  | .jsrAbs => [0x20#8]
  | .andIzx => [0x21#8]
  | .fill22 => [0x22#8]
  | .fill23 => [0x23#8]
  | .bitZp0 => [0x24#8]
  | .andZp0 => [0x25#8]
  | .rolZp0 => [0x26#8]
  | .fill27 => [0x27#8]
  | .plp => [0x28#8]
  | .andImm => [0x29#8]
  | .rolAcc => [0x2A#8]
  | .fill2B => [0x2B#8]
  | .bitAbs => [0x2C#8]
  | .andAbs => [0x2D#8]
  | .rolAbs => [0x2E#8]
  | .fill2F => [0x2F#8]
  | .bmiRel => [0x30#8]
  | .andIzy => [0x31#8]
  | .fill32 => [0x32#8]
  | .fill33 => [0x33#8]
  | .fill34 => [0x34#8]
  | .andZpx => [0x35#8]
  | .rolZpx => [0x36#8]
  | .fill37 => [0x37#8]
  | .sec => [0x38#8]
  | .andAby => [0x39#8]
  | .fill3A => [0x3A#8]
  | .fill3B => [0x3B#8]
  | .fill3C => [0x3C#8]
  | .andAbx => [0x3D#8]
  | .rolAbx => [0x3E#8]
  | .fill3F => [0x3F#8]
  | .rti => [0x40#8]
  | .eorIzx => [0x41#8]
  | .fill42 => [0x42#8]
  | .fill43 => [0x43#8]
  | .fill44 => [0x44#8]
  | .eorZp0 => [0x45#8]
  | .lsrZp0 => [0x46#8]
  | .fill47 => [0x47#8]
  | .pha => [0x48#8]
  | .eorImm => [0x49#8]
  | .lsrAcc => [0x4A#8]
  | .fill4B => [0x4B#8]
  | .jmpAbs => [0x4C#8]
  | .eorAbs => [0x4D#8]
  | .lsrAbs => [0x4E#8]
  | .fill4F => [0x4F#8]
  | .bvcRel => [0x50#8]
  | .eorIzy => [0x51#8]
  | .fill52 => [0x52#8]
  | .fill53 => [0x53#8]
  | .fill54 => [0x54#8]
  | .eorZpx => [0x55#8]
  | .lsrZpx => [0x56#8]
  | .fill57 => [0x57#8]
  | .cli => [0x58#8]
  | .eorAby => [0x59#8]
  | .fill5A => [0x5A#8]
  | .fill5B => [0x5B#8]
  | .fill5C => [0x5C#8]
  | .eorAbx => [0x5D#8]
  | .lsrAbx => [0x5E#8]
  | .fill5F => [0x5F#8]
  | .rts => [0x60#8]
  | .adcIzx zp8 => [0x61#8, zp8]
  | .fill62 => [0x62#8]
  | .fill63 => [0x63#8]
  | .fill64 => [0x64#8]
  | .adcZp0 zp8 => [0x65#8, zp8]
  | .rorZp0 => [0x66#8]
  | .fill67 => [0x67#8]
  | .pla => [0x68#8]
  | .adcImm imm8 => [0x69#8, imm8]
  | .rorAcc => [0x6A#8]
  | .fill6B => [0x6B#8]
  | .jmpInd => [0x6C#8]
  | .adcAbs lo hi => [0x6D#8, lo, hi]
  | .rorAbs => [0x6E#8]
  | .fill6F => [0x6F#8]
  | .bvsRel => [0x70#8]
  | .adcIzy zp8 => [0x71#8, zp8]
  | .fill72 => [0x72#8]
  | .fill73 => [0x73#8]
  | .fill74 => [0x74#8]
  | .adcZpx zp8 => [0x75#8, zp8]
  | .rorZpx => [0x76#8]
  | .fill77 => [0x77#8]
  | .sei => [0x78#8]
  | .adcAby lo hi => [0x79#8, lo, hi]
  | .fill7A => [0x7A#8]
  | .fill7B => [0x7B#8]
  | .fill7C => [0x7C#8]
  | .adcAbx lo hi => [0x7D#8, lo, hi]
  | .rorAbx => [0x7E#8]
  | .fill7F => [0x7F#8]
  | .fill80 => [0x80#8]
  | .staIzx => [0x81#8]
  | .fill82 => [0x82#8]
  | .fill83 => [0x83#8]
  | .styZp0 => [0x84#8]
  | .staZp0 => [0x85#8]
  | .stxZp0 => [0x86#8]
  | .fill87 => [0x87#8]
  | .dey => [0x88#8]
  | .fill89 => [0x89#8]
  | .txa => [0x8A#8]
  | .fill8B => [0x8B#8]
  | .styAbs => [0x8C#8]
  | .staAbs => [0x8D#8]
  | .stxAbs => [0x8E#8]
  | .fill8F => [0x8F#8]
  | .bccRel => [0x90#8]
  | .staIzy => [0x91#8]
  | .fill92 => [0x92#8]
  | .fill93 => [0x93#8]
  | .styZpx => [0x94#8]
  | .staZpx => [0x95#8]
  | .stxZpy => [0x96#8]
  | .fill97 => [0x97#8]
  | .tya => [0x98#8]
  | .staAby => [0x99#8]
  | .txs => [0x9A#8]
  | .fill9B => [0x9B#8]
  | .fill9C => [0x9C#8]
  | .staAbx => [0x9D#8]
  | .fill9E => [0x9E#8]
  | .fill9F => [0x9F#8]
  | .ldyImm => [0xA0#8]
  | .ldaIzx => [0xA1#8]
  | .ldxImm => [0xA2#8]
  | .fillA3 => [0xA3#8]
  | .ldyZp0 => [0xA4#8]
  | .ldaZp0 => [0xA5#8]
  | .ldxZp0 => [0xA6#8]
  | .fillA7 => [0xA7#8]
  | .tay => [0xA8#8]
  | .ldaImm => [0xA9#8]
  | .tax => [0xAA#8]
  | .fillAB => [0xAB#8]
  | .ldyAbs => [0xAC#8]
  | .ldaAbs => [0xAD#8]
  | .ldxAbs => [0xAE#8]
  | .fillAF => [0xAF#8]
  | .bcsRel => [0xB0#8]
  | .ldaIzy => [0xB1#8]
  | .fillB2 => [0xB2#8]
  | .fillB3 => [0xB3#8]
  | .ldyZpx => [0xB4#8]
  | .ldaZpx => [0xB5#8]
  | .ldxZpy => [0xB6#8]
  | .fillB7 => [0xB7#8]
  | .clv => [0xB8#8]
  | .ldaAby => [0xB9#8]
  | .tsx => [0xBA#8]
  | .fillBB => [0xBB#8]
  | .ldyAbx => [0xBC#8]
  | .ldaAbx => [0xBD#8]
  | .ldxAby => [0xBE#8]
  | .fillBF => [0xBF#8]
  | .cpyImm => [0xC0#8]
  | .cmpIzx => [0xC1#8]
  | .fillC2 => [0xC2#8]
  | .fillC3 => [0xC3#8]
  | .cpyZp0 => [0xC4#8]
  | .cmpZp0 => [0xC5#8]
  | .decZp0 => [0xC6#8]
  | .fillC7 => [0xC7#8]
  | .iny => [0xC8#8]
  | .cmpImm => [0xC9#8]
  | .dex => [0xCA#8]
  | .fillCB => [0xCB#8]
  | .cpyAbs => [0xCC#8]
  | .cmpAbs => [0xCD#8]
  | .decAbs => [0xCE#8]
  | .fillCF => [0xCF#8]
  | .bneRel => [0xD0#8]
  | .cmpIzy => [0xD1#8]
  | .fillD2 => [0xD2#8]
  | .fillD3 => [0xD3#8]
  | .fillD4 => [0xD4#8]
  | .cmpZpx => [0xD5#8]
  | .decZpx => [0xD6#8]
  | .fillD7 => [0xD7#8]
  | .cld => [0xD8#8]
  | .cmpAby => [0xD9#8]
  | .fillDA => [0xDA#8]
  | .fillDB => [0xDB#8]
  | .fillDC => [0xDC#8]
  | .cmpAbx => [0xDD#8]
  | .decAbx => [0xDE#8]
  | .fillDF => [0xDF#8]
  | .cpxImm => [0xE0#8]
  | .sbcIzx zp8 => [0xE1#8, zp8]
  | .fillE2 => [0xE2#8]
  | .fillE3 => [0xE3#8]
  | .cpxZp0 => [0xE4#8]
  | .sbcZp0 zp8 => [0xE5#8, zp8]
  | .incZp0 => [0xE6#8]
  | .fillE7 => [0xE7#8]
  | .inx => [0xE8#8]
  | .sbcImm imm8 => [0xE9#8, imm8]
  | .nop => [0xEA#8]
  | .fillEB => [0xEB#8]
  | .cpxAbs => [0xEC#8]
  | .sbcAbs lo hi => [0xED#8, lo, hi]
  | .incAbs => [0xEE#8]
  | .fillEF => [0xEF#8]
  | .beqRel => [0xF0#8]
  | .sbcIzy zp8 => [0xF1#8, zp8]
  | .fillF2 => [0xF2#8]
  | .fillF3 => [0xF3#8]
  | .fillF4 => [0xF4#8]
  | .sbcZpx zp8 => [0xF5#8, zp8]
  | .incZpx => [0xF6#8]
  | .fillF7 => [0xF7#8]
  | .sed => [0xF8#8]
  | .sbcAby lo hi => [0xF9#8, lo, hi]
  | .fillFA => [0xFA#8]
  | .fillFB => [0xFB#8]
  | .fillFC => [0xFC#8]
  | .sbcAbx lo hi => [0xFD#8, lo, hi]
  | .incAbx => [0xFE#8]
  | .fillFF => [0xFF#8]

/-- The opcode byte of an instruction. -/
def opcodeOf (i : Instr) : Byte := (encode i).headD 0#8

/-- The bytes of a word whose bit 0 is the least significant bit of the first byte: `n` bytes, the first at the lowest
address. -/
def bytesOf : Nat → Nat → List Byte
  | 0, _ => []
  | n + 1, w => BitVec.ofNat 8 w :: bytesOf n (w / 256)

/-- How many bytes the longest instruction has (R82). -/
def maxLength : Nat := 3

/-- The instruction whose bits are `w`, bit 0 the least significant bit of the opcode byte, every bit above `nbits` zero. -/
def decodeTableWord (nbits w : Nat) : Option Instr :=
  match decode (bytesOf maxLength (w % 2 ^ nbits)) with
  | .ok (i, _) => some i
  | .error _ => none

end Sys2Proof
end

