-- ==== Sys2Proof/Machine/Fetch.lean ====
section
/-! DEFINITION. Machine/Fetch.lean: fetching the bytes of the next instruction, each by one Memory Port read at PC (R31, R56,
R80), and storing an instruction where it is fetched. -/

namespace Sys2Proof.Machine

/-- The next instruction with the state after its bytes are fetched: the opcode fetch (R160 step 2), then the operand bytes its
format asks for, low byte first (R81, R82). -/
def fetchInstr (s : State) : Instr × State :=
  let f := s.fetchOpcode
  match formatOf f.1 with
  | .f1 i => (i, f.2)
  | .f2 i => (i f.2.fetchNext.1, f.2.fetchNext.2)
  | .f3 i => (i f.2.fetchNext.1 f.2.fetchNext.2.fetchNext.1, f.2.fetchNext.2.fetchNext.2)

/-- The bytes of a word stored at PC, at an instruction boundary of an unrefused state, so that the next pulse fetches them. -/
def placeWord (s : State) (nbits w : Nat) : State :=
  State.placeBytes { s with cycles := 0#8, refused := false } s.pc (bytesOf maxLength (w % 2 ^ nbits))

end Sys2Proof.Machine
end

