-- ==== Sys2Proof/Machine/Step.lean ====
section
/-! DEFINITION. Machine/Step.lean: one clock pulse (R12, R160, R161, R163). -/

namespace Sys2Proof.Machine

/-- One clock pulse: none from a state with the `refused` mark (R166); a dispatch pulse when `cycles` is 0 (R160); else an idle
pulse (R161). -/
def step (s : State) : Host.Outcome State Fault Refusal :=
  if s.refused then .refused .noFurtherPulse
  else if s.cycles = 0#8 then exec (fetchInstr s).1 (fetchInstr s).2
  else .next s.tick

/-- `s` with the instruction whose bits are `w` stored at PC, `cycles` 0 and no `refused` mark, so that the next pulse is the
dispatch pulse that fetches it (notes/assumptions/8.md). -/
def State.withFetchWord (s : State) (nbits w : Nat) : State := placeWord s nbits w

end Sys2Proof.Machine
end

