-- ==== Sys2Proof/Machine/Accessors.lean ====
section
/-! DEFINITION. Machine/Accessors.lean: the host's register and flag accessors (R39, R40), which act between pulses (D18) and
touch no hidden register. -/

namespace Sys2Proof.Machine

/-- `setA(v)` (R40). -/
def State.setA (s : State) (v : Byte) : State := { s with a := v }

/-- `setX(v)` (R40). -/
def State.setX (s : State) (v : Byte) : State := { s with x := v }

/-- `setY(v)` (R40). -/
def State.setY (s : State) (v : Byte) : State := { s with y := v }

/-- `setSP(v)` (R40). -/
def State.setSP (s : State) (v : Byte) : State := { s with sp := v }

/-- `setPC(v)` (R40). -/
def State.setPC (s : State) (v : Addr) : State := { s with pc := v }

/-- `getA()` (R40). -/
def State.getA (s : State) : Byte := s.a

/-- `getX()` (R40). -/
def State.getX (s : State) : Byte := s.x

/-- `getY()` (R40). -/
def State.getY (s : State) : Byte := s.y

/-- `getSP()` (R40). -/
def State.getSP (s : State) : Byte := s.sp

/-- `getPC()` (R40). -/
def State.getPC (s : State) : Addr := s.pc

/-- The whole of P written as its eight flags (R40, D20). -/
def State.setP (s : State) (v : Byte) : State :=
  ((((((((s.setFlag .C (v.getLsbD 0)).setFlag .Z (v.getLsbD 1)).setFlag .I (v.getLsbD 2)).setFlag .D (v.getLsbD 3)).setFlag
    .B (v.getLsbD 4)).setFlag .U (v.getLsbD 5)).setFlag .V (v.getLsbD 6)).setFlag .N (v.getLsbD 7))

end Sys2Proof.Machine
end

