-- ==== Sys2Proof/Machine/Pulse.lean ====
section
/-! DEFINITION. Machine/Pulse.lean: the pseudocode of R160 and R161 line by line, on the opcode table of R150 and the whole
resolvers of R111 to R122, with no decoder and no instruction type. The machine's `step` decodes first; that the two agree on
every state is a statement (Obligations.StepIsTheSpecPulse), not a definition. -/

namespace Sys2Proof.Machine

/-- `pulse()` as R160 and R161 write it. -/
def pulse (s : State) : Result :=
  if s.refused then .refused .noFurtherPulse
  else if s.cycles = 0#8 then
    let f := s.fetchOpcode
    match table s.config f.1 with
    | .unwired _ => refuseUnwired f.1 f.2
    | .run _ op mode base => finishEntry op mode (resolve mode (f.2.beginEntry base))
  else .next s.tick

end Sys2Proof.Machine
end

