-- ==== Sys2Proof/WellFormed.lean ====
section
/-! DEFINITION. WellFormed.lean: what must hold of an instruction, of a configuration and of declared RAM before a run. -/

namespace Sys2Proof

/-- Every instruction is well formed: there is no reserved encoding, and every byte is legal in every operand field, whose type
is the byte (R81, R88, R210). -/
def Instr.wellFormed (_i : Instr) : Bool := true

/-- Why a configuration is refused at construction (R152, D19): the first opcode whose cost lies outside 1 to 254. -/
inductive ConfigError where
  | costOutOfRange (opcode : Byte)
  deriving DecidableEq, Repr

/-- The first opcode of a list whose cost is outside 1 to 254. -/
def firstOutOfRange (cost : Byte → Nat) : List Byte → Option Byte
  | [] => none
  | op :: rest => if Machine.costInRange (cost op) then firstOutOfRange cost rest else some op

/-- The construction of a configuration from the maps `BASE_CYCLES` and `FILL_CYCLES` (R7, R152, D19): refused when the cost of
a wired or an illegal opcode is outside 1 to 254, so no run starts from it. -/
def Config.build (baseCycles fillCycles : Byte → Nat) (order : PtrReadOrder) : Except ConfigError Config :=
  match firstOutOfRange baseCycles Machine.wiredOpcodes, firstOutOfRange fillCycles Machine.illegalOpcodes with
  | some op, _ => .error (.costOutOfRange op)
  | none, some op => .error (.costOutOfRange op)
  | none, none =>
    let base := fun op => Machine.costOfNat (baseCycles op)
    .ok {
      adc := { imm := base 0x69#8, zp0 := base 0x65#8, zpx := base 0x75#8, abs := base 0x6D#8,
               abx := base 0x7D#8, aby := base 0x79#8, izx := base 0x61#8, izy := base 0x71#8 }
      sbc := { imm := base 0xE9#8, zp0 := base 0xE5#8, zpx := base 0xF5#8, abs := base 0xED#8,
               abx := base 0xFD#8, aby := base 0xF9#8, izx := base 0xE1#8, izy := base 0xF1#8 }
      fillCycles := Vector.ofFn fun i => Machine.costOfNat (fillCycles (Machine.illegalOpcodes.getD i.val 0))
      ptrReadOrder := order }

/-- The declared RAM of a state is in its canonical form (R51, R52). -/
def Machine.State.wellFormed (s : Machine.State) : Bool := s.mem.wf

end Sys2Proof
end

