-- ==== Sys2Proof/Safety.lean ====
section
/-! DEFINITION. Safety.lean: how a run starts, how far it goes, what counts as a safe one, and the invariant of every run
(R30, R35, R52, R270, R271, R278). -/

namespace Sys2Proof

open Machine

/-- The RAM law (R52, D8): `v` is a byte the port may answer to a read of `addr`; where `addr` is declared RAM it is the byte
there, elsewhere it is any byte. -/
def RamLaw (s : State) (addr : Addr) (v : Byte) : Prop := ∀ w, s.mem.get addr.toNat = some w → v = w

/-- A launch state (R42, R270): any register values at all, unrefused, declared RAM in canonical form, nothing read yet. -/
def LaunchState (s : State) : Prop := s.refused = false ∧ s.mem.wf = true ∧ s.history = [] ∧ s.reads = 0

/-- `CleanEntry(s)` for a program whose first opcode is at `start` (R271). -/
def CleanEntry (start : Addr) (s : State) : Prop := s.cycles = 0#8 ∧ s.refused = false ∧ s.pc = start

/-- What holds of a launch with `cycles` at most 254 and of every state a run reaches from one: declared RAM in canonical form;
no refusal; U set once an instruction was fetched (R30); every read counted; the counter within the costs' range (R35, D19); and
every recorded read of declared RAM answered by the byte there (R52). -/
structure RunInvariant (s : State) : Prop where
  canonical : s.mem.wf = true
  unrefused : s.refused = false
  unused : s.history ≠ [] → s.flag .U = true
  counted : s.reads = s.history.length
  bounded : s.cycles.toNat ≤ 254
  answered : ∀ e ∈ s.history, RamLaw s e.addr e.value

/-- The state after exactly n pulses (R278, second form). -/
def afterPulses (n : Nat) (s : State) : Result := core.run n s

/-- The pulses from a state to its next instruction boundary: as many idle pulses as `cycles` says (R163, R164). -/
def toBoundary (s : State) : Result := core.run s.cycles.toNat s

/-- The state after k instructions from an instruction boundary, at the boundary that follows the k-th (R278, first form). -/
def afterInstructions : Nat → State → Result
  | 0, s => .next s
  | k + 1, s =>
    match step s with
    | .fault f => .fault f
    | .refused r => .refused r
    | .next t =>
      match toBoundary t with
      | .fault f => .fault f
      | .refused r => .refused r
      | .next u => afterInstructions k u

/-- A run of n pulses is safe when it reaches an end state: no refusal and no fault before it (R278). -/
def SafeFor (n : Nat) (s : State) : Prop := ∃ t, afterPulses n s = .next t

end Sys2Proof
end

