-- ==== Sys2Proof/Certificates/Slice0/Obligations.lean ====
section
/-! DEFINITION. Certificates/Slice0/Obligations.lean: the statements about the model, with the vocabulary they are written in. The
numbers they speak of are written in exact arithmetic, not through the model's own adder or address helpers. -/

namespace Sys2Proof.Claims

open Machine

/-- The instructions of the 105 illegal opcodes (R87), part 1 of 4. -/
def fillInstrs1 : List Instr :=
  [.fill02, .fill03, .fill04, .fill07, .fill0B, .fill0C, .fill0F, .fill12, .fill13,
   .fill14, .fill17, .fill1A, .fill1B, .fill1C, .fill1F, .fill22, .fill23, .fill27,
   .fill2B, .fill2F, .fill32, .fill33, .fill34, .fill37, .fill3A, .fill3B, .fill3C]

/-- The instructions of the 105 illegal opcodes (R87), part 2 of 4. -/
def fillInstrs2 : List Instr :=
  [.fill3F, .fill42, .fill43, .fill44, .fill47, .fill4B, .fill4F, .fill52, .fill53,
   .fill54, .fill57, .fill5A, .fill5B, .fill5C, .fill5F, .fill62, .fill63, .fill64,
   .fill67, .fill6B, .fill6F, .fill72, .fill73, .fill74, .fill77, .fill7A, .fill7B]

/-- The instructions of the 105 illegal opcodes (R87), part 3 of 4. -/
def fillInstrs3 : List Instr :=
  [.fill7C, .fill7F, .fill80, .fill82, .fill83, .fill87, .fill89, .fill8B, .fill8F,
   .fill92, .fill93, .fill97, .fill9B, .fill9C, .fill9E, .fill9F, .fillA3, .fillA7,
   .fillAB, .fillAF, .fillB2, .fillB3, .fillB7, .fillBB, .fillBF, .fillC2, .fillC3]

/-- The instructions of the 105 illegal opcodes (R87), part 4 of 4. -/
def fillInstrs4 : List Instr :=
  [.fillC7, .fillCB, .fillCF, .fillD2, .fillD3, .fillD4, .fillD7, .fillDA, .fillDB,
   .fillDC, .fillDF, .fillE2, .fillE3, .fillE7, .fillEB, .fillEF, .fillF2, .fillF3,
   .fillF4, .fillF7, .fillFA, .fillFB, .fillFC, .fillFF]

/-- The instructions of the 105 illegal opcodes (R87). -/
def fillInstrs : List Instr := fillInstrs1 ++ fillInstrs2 ++ fillInstrs3 ++ fillInstrs4

/-- The instructions of the 135 unwired opcodes (R223), part 1 of 5. -/
def unwiredInstrs1 : List Instr :=
  [.brk, .oraIzx, .oraZp0, .aslZp0, .php, .oraImm, .aslAcc, .oraAbs, .aslAbs,
   .bplRel, .oraIzy, .oraZpx, .aslZpx, .clc, .oraAby, .oraAbx, .aslAbx, .jsrAbs,
   .andIzx, .bitZp0, .andZp0, .rolZp0, .plp, .andImm, .rolAcc, .bitAbs, .andAbs]

/-- The instructions of the 135 unwired opcodes (R223), part 2 of 5. -/
def unwiredInstrs2 : List Instr :=
  [.rolAbs, .bmiRel, .andIzy, .andZpx, .rolZpx, .sec, .andAby, .andAbx, .rolAbx,
   .rti, .eorIzx, .eorZp0, .lsrZp0, .pha, .eorImm, .lsrAcc, .jmpAbs, .eorAbs,
   .lsrAbs, .bvcRel, .eorIzy, .eorZpx, .lsrZpx, .cli, .eorAby, .eorAbx, .lsrAbx]

/-- The instructions of the 135 unwired opcodes (R223), part 3 of 5. -/
def unwiredInstrs3 : List Instr :=
  [.rts, .rorZp0, .pla, .rorAcc, .jmpInd, .rorAbs, .bvsRel, .rorZpx, .sei,
   .rorAbx, .staIzx, .styZp0, .staZp0, .stxZp0, .dey, .txa, .styAbs, .staAbs,
   .stxAbs, .bccRel, .staIzy, .styZpx, .staZpx, .stxZpy, .tya, .staAby, .txs]

/-- The instructions of the 135 unwired opcodes (R223), part 4 of 5. -/
def unwiredInstrs4 : List Instr :=
  [.staAbx, .ldyImm, .ldaIzx, .ldxImm, .ldyZp0, .ldaZp0, .ldxZp0, .tay, .ldaImm,
   .tax, .ldyAbs, .ldaAbs, .ldxAbs, .bcsRel, .ldaIzy, .ldyZpx, .ldaZpx, .ldxZpy,
   .clv, .ldaAby, .tsx, .ldyAbx, .ldaAbx, .ldxAby, .cpyImm, .cmpIzx, .cpyZp0]

/-- The instructions of the 135 unwired opcodes (R223), part 5 of 5. -/
def unwiredInstrs5 : List Instr :=
  [.cmpZp0, .decZp0, .iny, .cmpImm, .dex, .cpyAbs, .cmpAbs, .decAbs, .bneRel,
   .cmpIzy, .cmpZpx, .decZpx, .cld, .cmpAby, .cmpAbx, .decAbx, .cpxImm, .cpxZp0,
   .incZp0, .inx, .nop, .cpxAbs, .incAbs, .beqRel, .incZpx, .sed, .incAbx]

/-- The instructions of the 135 unwired opcodes (R223). -/
def unwiredInstrs : List Instr := unwiredInstrs1 ++ unwiredInstrs2 ++ unwiredInstrs3 ++ unwiredInstrs4 ++ unwiredInstrs5

/-- The 16-bit value of a low and a high byte (R53). -/
def word (lo hi : Byte) : Addr := BitVec.ofNat 16 (lo.toNat + 256 * hi.toNat)

/-- A zero-page address: a number modulo 256, the high byte 0 (R113, R114). -/
def zpAddr (n : Nat) : Addr := BitVec.ofNat 16 (n % 256)

/-- A base with an index added modulo 65536 (R118). -/
def indexed (base : Addr) (index : Byte) : Addr := BitVec.ofNat 16 (base.toNat + index.toNat)

/-- 1 when the high bytes of two addresses differ, else 0 (R123). -/
def crossing (base addr : Addr) : Nat := if addr.toNat / 256 = base.toNat / 256 then 0 else 1

/-- The carry flag as a number. -/
def carryIn (s : State) : Nat := (s.flag .C).toNat

/-- What ADC does with an operand byte `m` from state `s` (R184, R185): the sum modulo 256 in A, the four flags it writes, the three
flags it keeps, U forced, and the operand left in the fetch cache. -/
structure AdcEffect (s : State) (m : Byte) (t : State) : Prop where
  result : t.a.toNat = (s.a.toNat + m.toNat + carryIn s) % 256
  carry : t.flag .C = true ↔ 255 < s.a.toNat + m.toNat + carryIn s
  zero : t.flag .Z = true ↔ t.a.toNat = 0
  overflow : t.flag .V = true ↔ (s.a.msb = m.msb ∧ t.a.msb ≠ s.a.msb)
  negative : t.flag .N = t.a.msb
  keepsI : t.flag .I = s.flag .I
  keepsD : t.flag .D = s.flag .D
  keepsB : t.flag .B = s.flag .B
  unused : t.flag .U = true
  cached : t.fetched = m ∧ t.fetchValid = true

/-- What SBC does with an operand byte `m` from state `s` (R185, R186): the addition of A, the complement 255 - m and the carry. -/
structure SbcEffect (s : State) (m : Byte) (t : State) : Prop where
  result : t.a.toNat = (s.a.toNat + (255 - m.toNat) + carryIn s) % 256
  carry : t.flag .C = true ↔ 255 < s.a.toNat + (255 - m.toNat) + carryIn s
  zero : t.flag .Z = true ↔ t.a.toNat = 0
  overflow : t.flag .V = true ↔ (s.a.msb ≠ m.msb ∧ t.a.msb ≠ s.a.msb)
  negative : t.flag .N = t.a.msb
  keepsI : t.flag .I = s.flag .I
  keepsD : t.flag .D = s.flag .D
  keepsB : t.flag .B = s.flag .B
  unused : t.flag .U = true
  cached : t.fetched = m ∧ t.fetchValid = true

/-- What every instruction that runs leaves unchanged once its bytes are fetched: every register but A and P, the program counter,
the opcode register, the refused mark, the configuration, and every byte of memory. The resolved-address state is not named: the
spec leaves it undefined between instructions (R34). -/
structure Frame (s t : State) : Prop where
  x : t.x = s.x
  y : t.y = s.y
  sp : t.sp = s.sp
  pc : t.pc = s.pc
  opcode : t.opcode = s.opcode
  refused : t.refused = s.refused
  config : t.config = s.config
  memory : t.mem = s.mem
  bytes : ∀ addr : Addr, t.mem.get addr.toNat = s.mem.get addr.toNat

/-- The reads between two states are these, in this order, each recorded and counted (R11, R56). -/
def Reads (s t : State) (events : List ReadEvent) : Prop :=
  t.history = events.reverse ++ s.history ∧ t.reads = s.reads + events.length

/-- A dispatch leaves the pulses still to come: the base cost and the extra cycle, less the pulse itself (R160, R164). -/
def Remaining (t : State) (base : Cost) (extra : Nat) : Prop := t.cycles.toNat + 1 = base.value.toNat + extra

/-- The two reads of a pointer pair in the order `PTR_READ_ORDER` gives (R124). -/
def pairReads (s : State) (aLo : Addr) (lo : Byte) (aHi : Addr) (hi : Byte) : List ReadEvent :=
  match s.config.ptrReadOrder with
  | .loFirst => [⟨aLo, lo⟩, ⟨aHi, hi⟩]
  | .hiFirst => [⟨aHi, hi⟩, ⟨aLo, lo⟩]

/-- The bytes from an address on are declared RAM and hold these values. -/
def HoldsAt (s : State) (addr : Addr) (bytes : List Byte) : Prop :=
  ∀ k b, bytes[k]? = some b → s.mem.get (addr + BitVec.ofNat 16 k).toNat = some b

/-- The state after the fetch of these bytes at PC: PC past them, the first in the opcode register, the fetch cache empty, each read
recorded and counted (R160 step 2, R31, R56). -/
def afterFetch (s : State) (bytes : List Byte) : State :=
  { s with
    pc := s.pc + BitVec.ofNat 16 bytes.length
    opcode := bytes.headD 0#8
    fetchValid := false
    history := (bytes.zipIdx.map fun e => ReadEvent.mk (s.pc + BitVec.ofNat 16 e.2) e.1).reverse ++ s.history
    reads := s.reads + bytes.length }

/-- A result with a change made to the state it leaves. -/
def mapState (g : State → State) : Result → Result
  | .next t => .next (g t)
  | .fault f => .fault f
  | .refused (.unwiredOpcode op addr left) => .refused (.unwiredOpcode op addr (g left))
  | .refused r => .refused r

/-- What the host, or another agent of the port, can change between two pulses: a register or flag by its accessor (R40), the whole
of P (D20), a byte of memory placed or written (R52, R58, R275). -/
inductive HostChange where
  | a (v : Byte)
  | x (v : Byte)
  | y (v : Byte)
  | sp (v : Byte)
  | pc (v : Addr)
  | flag (f : Flag) (b : Bool)
  | status (v : Byte)
  | placed (addr : Addr) (b : Byte)
  | written (addr : Addr) (b : Byte)

/-- The state after a change. -/
def HostChange.apply : HostChange → State → State
  | .a v, s => s.setA v
  | .x v, s => s.setX v
  | .y v, s => s.setY v
  | .sp v, s => s.setSP v
  | .pc v, s => s.setPC v
  | .flag f b, s => s.setFlag f b
  | .status v, s => s.setP v
  | .placed addr b, s => s.place addr b
  | .written addr b, s => s.memWrite addr b

/-- Values of the hidden registers but the cycle counter (R33). -/
structure Hidden where
  opcode : Byte
  absAddr : Addr
  relAddr : Addr
  fetched : Byte
  fetchValid : Bool

/-- A state with these values in its hidden registers. -/
def Hidden.put (h : Hidden) (s : State) : State :=
  { s with opcode := h.opcode, absAddr := h.absAddr, relAddr := h.relAddr, fetched := h.fetched, fetchValid := h.fetchValid }

/-- The signed value of a byte, with the two's-complement reading of R187. -/
def signed (b : Byte) : Int := if b.toNat < 128 then b.toNat else b.toNat - 256

end Sys2Proof.Claims

open Sys2Proof Sys2Proof.Machine Sys2Proof.Claims

/-- For every well-formed instruction i and every list of bytes after it, decoding the bytes of i followed by that list gives i, with every operand byte as it was, and that list as the rest. -/
def Obligations.EncodingRoundTrips : Prop :=
  ∀ (i : Instr) (rest : List Byte), i.wellFormed = true → decode (encode i ++ rest) = .ok (i, rest)

/-- If a list of bytes decodes to an instruction i with a rest, the list is the encoding of i followed by the rest: each instruction has one word and no two opcode bytes name one instruction. -/
def Obligations.DecodedBytesAreTheEncoding : Prop :=
  ∀ (bytes rest : List Byte) (i : Instr), decode bytes = .ok (i, rest) → bytes = encode i ++ rest

/-- A list of bytes decodes to no instruction if and only if it is empty or shorter than one opcode byte and the operand bytes its opcode asks for; no opcode byte is refused. -/
def Obligations.DecodingFailsOnlyForMissingBytes : Prop :=
  ∀ bytes : List Byte, (∃ e, decode bytes = .error e) ↔
    match bytes with
    | [] => True
    | opcode :: rest => rest.length < operandCount opcode

/-- For every instruction and configuration, its encoding has the length of its opcode's table entry: one byte plus 0, 1 or 2 operand bytes by the entry's mode, and one byte for an entry that is unwired. That an unwired entry has one byte is the model's reading (log entry 9), since R82 gives a length by the mode and R151 uses no mode of such an entry. -/
def Obligations.LengthFollowsFromTheTable : Prop :=
  ∀ (cfg : Config) (i : Instr), (encode i).length = entryLength (table cfg (opcodeOf i))

/-- Words written from R85 and R86: 69 22 is ADC #, 75 F0 is ADC zp,X, 6D 34 12 is ADC abs with lo 34 and hi 12, F1 86 is SBC (zp),Y, FD FF 12 is SBC abs,X, 02 and EB are fill bytes, EA is the unwired NOP, 4C is the unwired JMP. That decoding takes one byte of the JMP and leaves the next two is the model's reading (log entry 9), from the refusal right after the opcode read (R160 step 3, R222). -/
def Obligations.SampleWordsDecode : Prop :=
  decode [0x69#8, 0x22#8] = .ok (.adcImm 0x22#8, []) ∧
  decode [0x75#8, 0xF0#8] = .ok (.adcZpx 0xF0#8, []) ∧
  decode [0x6D#8, 0x34#8, 0x12#8] = .ok (.adcAbs 0x34#8 0x12#8, []) ∧
  decode [0xF1#8, 0x86#8] = .ok (.sbcIzy 0x86#8, []) ∧
  decode [0xFD#8, 0xFF#8, 0x12#8] = .ok (.sbcAbx 0xFF#8 0x12#8, []) ∧
  decode [0x02#8] = .ok (.fill02, []) ∧
  decode [0xEB#8, 0x01#8] = .ok (.fillEB, [0x01#8]) ∧
  decode [0xEA#8] = .ok (.nop, []) ∧
  decode [0x4C#8, 0x00#8, 0x05#8] = .ok (.jmpAbs, [0x00#8, 0x05#8])

/-- The lists have 16, 135 and 105 bytes; every byte is in exactly one of them; and the wired bytes are those with bits 1:0 equal to 01 and bits 7:5 equal to 011 or 111. -/
def Obligations.EveryByteIsInOneClass : Prop :=
  wiredOpcodes.length = 16 ∧ unwiredOpcodes.length = 135 ∧ illegalOpcodes.length = 105 ∧
  ∀ opcode : Byte,
    (opcode ∈ wiredOpcodes ↔ opcode.toNat % 4 = 1 ∧ (opcode.toNat / 32 = 3 ∨ opcode.toNat / 32 = 7)) ∧
    (opcode ∈ unwiredOpcodes ↔ opcode ∉ wiredOpcodes ∧ opcode ∉ illegalOpcodes) ∧
    ¬ (opcode ∈ wiredOpcodes ∧ opcode ∈ illegalOpcodes)

/-- At an instruction boundary of an unrefused state, when the bytes of declared RAM from PC on are a list that decodes to the well-formed instruction i with nothing left over, the pulse is exec of i in the state after the fetch of those bytes: PC past them, the first in the opcode register, the fetch cache empty, each read recorded and counted. -/
def Obligations.StepRunsDecodedInstruction : Prop :=
  ∀ (s : State) (bytes : List Byte) (i : Instr), s.refused = false → s.cycles = 0#8 → HoldsAt s s.pc bytes →
    decode bytes = .ok (i, []) → i.wellFormed = true → step s = exec i (afterFetch s bytes)

/-- At an instruction boundary of every unrefused state there are bytes, each an answer the port may give at PC, PC+1, PC+2 modulo 65536 (its RAM byte where declared RAM, any byte elsewhere), which decode to an instruction with nothing left over, and the pulse is exec of that instruction in the state after their fetch. -/
def Obligations.StepFetchesThroughThePort : Prop :=
  ∀ s : State, s.refused = false → s.cycles = 0#8 → ∃ (bytes : List Byte) (i : Instr),
    decode bytes = .ok (i, []) ∧ i.wellFormed = true ∧
    (∀ k b, bytes[k]? = some b → RamLaw s (s.pc + BitVec.ofNat 16 k) b) ∧
    step s = exec i (afterFetch s bytes)

/-- For every state the step (decode the bytes at PC, then run the instruction's own meaning) answers what the pseudocode of R160 and R161 answers, which looks the opcode up in the table of R150, resolves the entry's mode by reading its operand bytes at PC, and operates. -/
def Obligations.StepIsTheSpecPulse : Prop :=
  ∀ s : State, step s = pulse s

/-- A pulse of an unrefused state whose cycle counter is above 0 answers the same state with the counter one lower: no Memory Port access and no other change. -/
def Obligations.IdlePulseOnlyDecrements : Prop :=
  ∀ s : State, s.refused = false → 0 < s.cycles.toNat →
    ∃ t, step s = .next t ∧ t.cycles.toNat = s.cycles.toNat - 1 ∧ { t with cycles := s.cycles } = s

/-- A pulse of a state that bears the refused mark answers no next state: it is refused as noFurtherPulse. R166 says only that there is no further pulse; that the model says so by a refusal of this name is its choice (log entry 12). -/
def Obligations.RefusedStateHasNoPulse : Prop :=
  ∀ s : State, s.refused = true → step s = .refused .noFurtherPulse

/-- For each instruction of the list of unwired instructions (135, named one by one) and every state after its fetch, exec refuses UnwiredOpcode with the instruction's opcode byte, the address PC - 1, and the same state with the refused mark set and nothing else changed. -/
def Obligations.UnwiredInstructionIsRefused : Prop :=
  unwiredInstrs.length = 135 ∧
  ∀ i ∈ unwiredInstrs, ∀ s : State, opcodeOf i ∈ unwiredOpcodes ∧
    exec i s = .refused (.unwiredOpcode (opcodeOf i) (s.pc - 1#16) { s with refused := true })

/-- At an instruction boundary of an unrefused state whose PC holds an unwired opcode byte in declared RAM, the pulse refuses UnwiredOpcode with that byte and PC. The state it leaves has PC one past, the byte in the opcode register, one read recorded, the fetch cache emptied by the opcode fetch (the model's reading, log entry 10), the refused mark set, and everything else unchanged: P is not forced, no operand byte is read, no cycle is loaded. -/
def Obligations.UnwiredOpcodePulse : Prop :=
  ∀ (s : State) (opcode : Byte), s.refused = false → s.cycles = 0#8 → s.mem.get s.pc.toNat = some opcode →
    opcode ∈ unwiredOpcodes →
    step s = .refused (.unwiredOpcode opcode s.pc
      { s with
        pc := s.pc + 1#16
        opcode := opcode
        fetchValid := false
        refused := true
        history := ⟨s.pc, opcode⟩ :: s.history
        reads := s.reads + 1 })

/-- A pulse answers no next state if and only if its state bears the refused mark, or is at an instruction boundary and the byte the port answers at PC is an unwired opcode; in particular every wired and every illegal opcode runs to a next state whatever the operands and the memory. -/
def Obligations.PulseCompletesUnlessUnwired : Prop :=
  ∀ s : State, (¬ ∃ t, step s = .next t) ↔
    (s.refused = true ∨ (s.cycles = 0#8 ∧ s.portAnswer s.pc ∈ unwiredOpcodes))

/-- From no state does a step answer a fault: the block raises no exception, and the fault of operand materialization under Relative mode is reached by no opcode. -/
def Obligations.NoPulseFaults : Prop :=
  ∀ (s : State) (f : Fault), step s ≠ .fault f

/-- When a pulse answers a next state: on a dispatch pulse PC ends L bytes past the opcode's address modulo 65536, L the length of the table entry of the opcode byte the port answered at PC; on an idle pulse PC is unchanged. -/
def Obligations.PcAdvancesByTheLength : Prop :=
  ∀ s t : State, step s = .next t →
    (s.cycles = 0#8 → t.pc.toNat = (s.pc.toNat + entryLength (table s.config (s.portAnswer s.pc))) % 65536) ∧
    (s.cycles ≠ 0 → t.pc = s.pc)

/-- When a pulse answers a next state: after a dispatch pulse P.U is 1 whatever the host had written; after an idle pulse the whole of P is as before. -/
def Obligations.DispatchForcesUnused : Prop :=
  ∀ s t : State, step s = .next t →
    (s.cycles = 0#8 → t.flag .U = true) ∧ (s.cycles ≠ 0 → t.p = s.p)

/-- Whatever instruction runs, a pulse that answers a next state leaves X, Y, SP, the flags I, D and B, the declared RAM (every byte of it reads as before) and the configuration unchanged: only the host changes them. -/
def Obligations.NoPulseTouchesHostState : Prop :=
  ∀ s t : State, step s = .next t →
    t.x = s.x ∧ t.y = s.y ∧ t.sp = s.sp ∧
    t.flag .I = s.flag .I ∧ t.flag .D = s.flag .D ∧ t.flag .B = s.flag .B ∧
    t.mem = s.mem ∧ (∀ addr : Addr, t.mem.get addr.toNat = s.mem.get addr.toNat) ∧ t.config = s.config

/-- For each of the flags I, D and B: writing it before a pulse and running the pulse gives what running the pulse and then writing it gives, on every state, in a next state and in the state a refusal leaves. So ADC and SBC compute in binary whatever P.D holds and no pulse reads or writes the three flags. The two runs get the same port answers (the model's choice, log entry 4). -/
def Obligations.InertFlagsHaveNoEffect : Prop :=
  ∀ (s : State) (f : Flag) (b : Bool), (f = .I ∨ f = .D ∨ f = .B) →
    step (s.setFlag f b) = mapState (fun t => t.setFlag f b) (step s)

/-- Writing SP before a pulse and running the pulse gives what running the pulse and then writing SP gives, on every state. The two runs get the same port answers (the model's choice, log entry 4). -/
def Obligations.StackPointerHasNoEffect : Prop :=
  ∀ (s : State) (v : Byte), step (s.setSP v) = mapState (fun t => t.setSP v) (step s)

/-- When the dispatch pulse of an instruction answers t, the table entry of its opcode byte has a base cost N, and t has N + e - 1 pulses to go with e 0 or 1, and e is 1 only for ADC or SBC in mode ABX, ABY or IZY; and each of the pulses after it, up to the next boundary, answers t with the counter lower and nothing else changed, so no opcode is fetched before the N + e pulses are over. -/
def Obligations.InstructionOccupiesItsPulses : Prop :=
  ∀ s t : State, s.cycles = 0#8 → step s = .next t →
    (∃ mnemonic op mode base e, table s.config (s.portAnswer s.pc) = .run mnemonic op mode base ∧
      Remaining t base e ∧ e ≤ 1 ∧ (e = 1 → op ≠ .fill ∧ (mode = .abx ∨ mode = .aby ∨ mode = .izy))) ∧
    ∀ k, k ≤ t.cycles.toNat →
      afterPulses (k + 1) s = .next { t with cycles := BitVec.ofNat 8 (t.cycles.toNat - k) }

/-- If a pulse of s refuses UnwiredOpcode(op, addr) and leaves a state, then s is unrefused at an instruction boundary, op is the byte the port answered at PC and an unwired opcode, addr is PC; the state left bears the refused mark, has PC one past, op in the opcode register and the one read recorded, and A, X, Y, SP, P, the cycle counter, memory and the configuration of s; no pulse of it answers a next state; and no later number of pulses from s answers one. -/
def Obligations.RefusalEndsTheRun : Prop :=
  ∀ (s left : State) (op : Byte) (addr : Addr), step s = .refused (.unwiredOpcode op addr left) →
    s.refused = false ∧ s.cycles = 0#8 ∧ op = s.portAnswer s.pc ∧ op ∈ unwiredOpcodes ∧ addr = s.pc ∧
    left.refused = true ∧ left.pc = s.pc + 1#16 ∧ left.opcode = op ∧ left.history = ⟨s.pc, op⟩ :: s.history ∧
    left.a = s.a ∧ left.x = s.x ∧ left.y = s.y ∧ left.sp = s.sp ∧ left.p = s.p ∧ left.cycles = s.cycles ∧
    left.mem = s.mem ∧ left.config = s.config ∧
    (∀ t, step left ≠ .next t) ∧ ∀ (n : Nat) (t : State), afterPulses (n + 1) s ≠ .next t

/-- From an instruction boundary, the state at the boundary after k instructions, or the refusal met, is the same under any two configurations with the same pointer read order, but for the configuration itself: no register, flag, memory byte or read depends on BASE_CYCLES or FILL_CYCLES. The two runs get the same port answers (the model's choice, log entry 4). -/
def Obligations.CostsDecideNoData : Prop :=
  ∀ (k : Nat) (s : State) (cfg : Config), s.cycles = 0#8 → cfg.ptrReadOrder = s.config.ptrReadOrder →
    afterInstructions k { s with config := cfg } =
      mapState (fun t => { t with config := cfg }) (afterInstructions k s)

/-- If a state has its declared RAM in canonical form, no refused mark, U set once something was read, every read counted, the cycle counter at most 254, and every recorded read of declared RAM answered by the byte there, then so has the state a pulse answers. -/
def Obligations.InvariantKeptByEveryPulse : Prop :=
  ∀ s t : State, RunInvariant s → step s = .next t → RunInvariant t

/-- State.reset satisfies the run invariant, is a launch state, and is a clean entry at address 0. The spec gives no reset value: that the counter and PC are 0 there is the model's choice (log entries 1 and 3). -/
def Obligations.ResetSatisfiesTheInvariant : Prop :=
  RunInvariant State.reset ∧ LaunchState State.reset ∧ CleanEntry 0#16 State.reset

/-- ADC #imm answers a next state from every state after its fetch, with the operand byte itself and no read. A, C, Z, V and N are as R184 gives them, I, D and B are kept, U is 1; every other register, every byte of memory and the configuration are unchanged; the reads are exactly those named, in order; and the cost left is the base cost plus the extra cycle, less one. -/
def Obligations.AdcImmediateResult : Prop :=
  (∀ (s : State) (imm8 : Byte), ∃ t, exec (.adcImm imm8) s = .next t ∧ AdcEffect s imm8 t ∧ Frame s t ∧
    Reads s t [] ∧ Remaining t s.config.adc.imm 0)

/-- ADC zp and ADC zp,X answer a next state from every state their fetch leaves (fetchValid 0, as the opcode fetch clears it), with the byte the port answers at the zero-page address zp, or zp + X modulo 256, the one read they make; no extra cycle. A, C, Z, V and N are as R184 gives them, I, D and B are kept, U is 1; every other register, every byte of memory and the configuration are unchanged; the reads are exactly those named, in order; and the cost left is the base cost plus the extra cycle, less one. -/
def Obligations.AdcZeroPageResult : Prop :=
  (∀ (s : State) (zp8 : Byte), s.fetchValid = false → ∃ (m : Byte) (t : State), exec (.adcZp0 zp8) s = .next t ∧
    RamLaw s (zpAddr zp8.toNat) m ∧ AdcEffect s m t ∧ Frame s t ∧
    Reads s t [⟨zpAddr zp8.toNat, m⟩] ∧ Remaining t s.config.adc.zp0 0) ∧
  (∀ (s : State) (zp8 : Byte), s.fetchValid = false → ∃ (m : Byte) (t : State), exec (.adcZpx zp8) s = .next t ∧
    RamLaw s (zpAddr (zp8.toNat + s.x.toNat)) m ∧ AdcEffect s m t ∧ Frame s t ∧
    Reads s t [⟨zpAddr (zp8.toNat + s.x.toNat), m⟩] ∧ Remaining t s.config.adc.zpx 0)

/-- ADC abs, ADC abs,X and ADC abs,Y answer a next state from every state their fetch leaves (fetchValid 0, as the opcode fetch clears it), with the byte the port answers at the little-endian address, or that plus X or Y modulo 65536, the one read they make; the indexed forms cost one more cycle exactly when the high byte of the address differs from that of the base. A, C, Z, V and N are as R184 gives them, I, D and B are kept, U is 1; every other register, every byte of memory and the configuration are unchanged; the reads are exactly those named, in order; and the cost left is the base cost plus the extra cycle, less one. -/
def Obligations.AdcAbsoluteResult : Prop :=
  (∀ (s : State) (lo hi : Byte), s.fetchValid = false → ∃ (m : Byte) (t : State), exec (.adcAbs lo hi) s = .next t ∧
    RamLaw s (word lo hi) m ∧ AdcEffect s m t ∧ Frame s t ∧
    Reads s t [⟨word lo hi, m⟩] ∧ Remaining t s.config.adc.abs 0) ∧
  (∀ (s : State) (lo hi : Byte), s.fetchValid = false → ∃ (m : Byte) (t : State), exec (.adcAbx lo hi) s = .next t ∧
    RamLaw s (indexed (word lo hi) s.x) m ∧ AdcEffect s m t ∧ Frame s t ∧
    Reads s t [⟨indexed (word lo hi) s.x, m⟩] ∧
    Remaining t s.config.adc.abx (crossing (word lo hi) (indexed (word lo hi) s.x))) ∧
  (∀ (s : State) (lo hi : Byte), s.fetchValid = false → ∃ (m : Byte) (t : State), exec (.adcAby lo hi) s = .next t ∧
    RamLaw s (indexed (word lo hi) s.y) m ∧ AdcEffect s m t ∧ Frame s t ∧
    Reads s t [⟨indexed (word lo hi) s.y, m⟩] ∧
    Remaining t s.config.adc.aby (crossing (word lo hi) (indexed (word lo hi) s.y)))

/-- ADC (zp,X) and ADC (zp),Y answer a next state from every state their fetch leaves (fetchValid 0, as the opcode fetch clears it): the pointer pair is read in page 0 with wrap, in the order PTR_READ_ORDER gives, then the data byte at the pointer, or at the pointer plus Y modulo 65536; (zp),Y costs one more cycle exactly on a page cross. A, C, Z, V and N are as R184 gives them, I, D and B are kept, U is 1; every other register, every byte of memory and the configuration are unchanged; the reads are exactly those named, in order; and the cost left is the base cost plus the extra cycle, less one. -/
def Obligations.AdcPointerResult : Prop :=
  (∀ (s : State) (zp8 : Byte), s.fetchValid = false → ∃ (lo hi m : Byte) (t : State), exec (.adcIzx zp8) s = .next t ∧
    RamLaw s (zpAddr (zp8.toNat + s.x.toNat)) lo ∧ RamLaw s (zpAddr (zp8.toNat + s.x.toNat + 1)) hi ∧
    RamLaw s (word lo hi) m ∧ AdcEffect s m t ∧ Frame s t ∧
    Reads s t (pairReads s (zpAddr (zp8.toNat + s.x.toNat)) lo (zpAddr (zp8.toNat + s.x.toNat + 1)) hi ++
      [⟨word lo hi, m⟩]) ∧
    Remaining t s.config.adc.izx 0) ∧
  (∀ (s : State) (zp8 : Byte), s.fetchValid = false → ∃ (lo hi m : Byte) (t : State), exec (.adcIzy zp8) s = .next t ∧
    RamLaw s (zpAddr zp8.toNat) lo ∧ RamLaw s (zpAddr (zp8.toNat + 1)) hi ∧
    RamLaw s (indexed (word lo hi) s.y) m ∧ AdcEffect s m t ∧ Frame s t ∧
    Reads s t (pairReads s (zpAddr zp8.toNat) lo (zpAddr (zp8.toNat + 1)) hi ++
      [⟨indexed (word lo hi) s.y, m⟩]) ∧
    Remaining t s.config.adc.izy (crossing (word lo hi) (indexed (word lo hi) s.y)))

/-- SBC #imm answers a next state from every state after its fetch, with the operand byte itself and no read. A, C, Z, V and N are as R186 gives them, I, D and B are kept, U is 1; every other register, every byte of memory and the configuration are unchanged; the reads are exactly those named, in order; and the cost left is the base cost plus the extra cycle, less one. -/
def Obligations.SbcImmediateResult : Prop :=
  (∀ (s : State) (imm8 : Byte), ∃ t, exec (.sbcImm imm8) s = .next t ∧ SbcEffect s imm8 t ∧ Frame s t ∧
    Reads s t [] ∧ Remaining t s.config.sbc.imm 0)

/-- SBC zp and SBC zp,X answer a next state from every state their fetch leaves (fetchValid 0, as the opcode fetch clears it), with the byte the port answers at the zero-page address zp, or zp + X modulo 256, the one read they make; no extra cycle. A, C, Z, V and N are as R186 gives them, I, D and B are kept, U is 1; every other register, every byte of memory and the configuration are unchanged; the reads are exactly those named, in order; and the cost left is the base cost plus the extra cycle, less one. -/
def Obligations.SbcZeroPageResult : Prop :=
  (∀ (s : State) (zp8 : Byte), s.fetchValid = false → ∃ (m : Byte) (t : State), exec (.sbcZp0 zp8) s = .next t ∧
    RamLaw s (zpAddr zp8.toNat) m ∧ SbcEffect s m t ∧ Frame s t ∧
    Reads s t [⟨zpAddr zp8.toNat, m⟩] ∧ Remaining t s.config.sbc.zp0 0) ∧
  (∀ (s : State) (zp8 : Byte), s.fetchValid = false → ∃ (m : Byte) (t : State), exec (.sbcZpx zp8) s = .next t ∧
    RamLaw s (zpAddr (zp8.toNat + s.x.toNat)) m ∧ SbcEffect s m t ∧ Frame s t ∧
    Reads s t [⟨zpAddr (zp8.toNat + s.x.toNat), m⟩] ∧ Remaining t s.config.sbc.zpx 0)

/-- SBC abs, SBC abs,X and SBC abs,Y answer a next state from every state their fetch leaves (fetchValid 0, as the opcode fetch clears it), with the byte the port answers at the little-endian address, or that plus X or Y modulo 65536, the one read they make; the indexed forms cost one more cycle exactly when the high byte of the address differs from that of the base. A, C, Z, V and N are as R186 gives them, I, D and B are kept, U is 1; every other register, every byte of memory and the configuration are unchanged; the reads are exactly those named, in order; and the cost left is the base cost plus the extra cycle, less one. -/
def Obligations.SbcAbsoluteResult : Prop :=
  (∀ (s : State) (lo hi : Byte), s.fetchValid = false → ∃ (m : Byte) (t : State), exec (.sbcAbs lo hi) s = .next t ∧
    RamLaw s (word lo hi) m ∧ SbcEffect s m t ∧ Frame s t ∧
    Reads s t [⟨word lo hi, m⟩] ∧ Remaining t s.config.sbc.abs 0) ∧
  (∀ (s : State) (lo hi : Byte), s.fetchValid = false → ∃ (m : Byte) (t : State), exec (.sbcAbx lo hi) s = .next t ∧
    RamLaw s (indexed (word lo hi) s.x) m ∧ SbcEffect s m t ∧ Frame s t ∧
    Reads s t [⟨indexed (word lo hi) s.x, m⟩] ∧
    Remaining t s.config.sbc.abx (crossing (word lo hi) (indexed (word lo hi) s.x))) ∧
  (∀ (s : State) (lo hi : Byte), s.fetchValid = false → ∃ (m : Byte) (t : State), exec (.sbcAby lo hi) s = .next t ∧
    RamLaw s (indexed (word lo hi) s.y) m ∧ SbcEffect s m t ∧ Frame s t ∧
    Reads s t [⟨indexed (word lo hi) s.y, m⟩] ∧
    Remaining t s.config.sbc.aby (crossing (word lo hi) (indexed (word lo hi) s.y)))

/-- SBC (zp,X) and SBC (zp),Y answer a next state from every state their fetch leaves (fetchValid 0, as the opcode fetch clears it): the pointer pair is read in page 0 with wrap, in the order PTR_READ_ORDER gives, then the data byte at the pointer, or at the pointer plus Y modulo 65536; (zp),Y costs one more cycle exactly on a page cross. A, C, Z, V and N are as R186 gives them, I, D and B are kept, U is 1; every other register, every byte of memory and the configuration are unchanged; the reads are exactly those named, in order; and the cost left is the base cost plus the extra cycle, less one. -/
def Obligations.SbcPointerResult : Prop :=
  (∀ (s : State) (zp8 : Byte), s.fetchValid = false → ∃ (lo hi m : Byte) (t : State), exec (.sbcIzx zp8) s = .next t ∧
    RamLaw s (zpAddr (zp8.toNat + s.x.toNat)) lo ∧ RamLaw s (zpAddr (zp8.toNat + s.x.toNat + 1)) hi ∧
    RamLaw s (word lo hi) m ∧ SbcEffect s m t ∧ Frame s t ∧
    Reads s t (pairReads s (zpAddr (zp8.toNat + s.x.toNat)) lo (zpAddr (zp8.toNat + s.x.toNat + 1)) hi ++
      [⟨word lo hi, m⟩]) ∧
    Remaining t s.config.sbc.izx 0) ∧
  (∀ (s : State) (zp8 : Byte), s.fetchValid = false → ∃ (lo hi m : Byte) (t : State), exec (.sbcIzy zp8) s = .next t ∧
    RamLaw s (zpAddr zp8.toNat) lo ∧ RamLaw s (zpAddr (zp8.toNat + 1)) hi ∧
    RamLaw s (indexed (word lo hi) s.y) m ∧ SbcEffect s m t ∧ Frame s t ∧
    Reads s t (pairReads s (zpAddr zp8.toNat) lo (zpAddr (zp8.toNat + 1)) hi ++
      [⟨indexed (word lo hi) s.y, m⟩]) ∧
    Remaining t s.config.sbc.izy (crossing (word lo hi) (indexed (word lo hi) s.y)))

/-- For each instruction of the list of fill instructions (105, named one by one) and every state after its fetch, exec answers a next state in which P is as before but for U, which is 1; A, fetchValid and every other register named by the frame, every byte of memory and the configuration are unchanged; absAddr is PC; no read is made; and FILL_CYCLES of its opcode less one pulses are left. -/
def Obligations.FillResult : Prop :=
  fillInstrs.length = 105 ∧
  ∀ i ∈ fillInstrs, ∀ s : State, opcodeOf i ∈ illegalOpcodes ∧
    ∃ t, exec i s = .next t ∧ t.a = s.a ∧ t.fetchValid = s.fetchValid ∧ (∀ f, f ≠ .U → t.flag f = s.flag f) ∧
      t.flag .U = true ∧ t.absAddr = s.pc ∧ Frame s t ∧ Reads s t [] ∧
      Remaining t (fillCost s.config (opcodeOf i)) 0

/-- The default configuration gives ADC and SBC the base costs 2, 3, 4, 4, 4, 4, 6 and 5 in the modes IMM, ZP0, ZPX, ABS, ABX, ABY, IZX and IZY, the pointer order LoFirst, and 2 for every illegal opcode; State.reset holds it. The spec marks the numbers as defaults from general knowledge. That the default order is LoFirst and that State.reset holds the defaults is the model's choice (log entry 6): R7 leaves the order open and names LoFirst as the simulator's. -/
def Obligations.DefaultCosts : Prop :=
  (∀ costs, costs = defaultConfig.adc ∨ costs = defaultConfig.sbc →
    costs.imm.value.toNat = 2 ∧ costs.zp0.value.toNat = 3 ∧ costs.zpx.value.toNat = 4 ∧ costs.abs.value.toNat = 4 ∧
    costs.abx.value.toNat = 4 ∧ costs.aby.value.toNat = 4 ∧ costs.izx.value.toNat = 6 ∧ costs.izy.value.toNat = 5) ∧
  (∀ opcode ∈ illegalOpcodes, (fillCost defaultConfig opcode).value.toNat = 2) ∧
  defaultConfig.ptrReadOrder = .loFirst ∧ State.reset.config = defaultConfig

/-- For every accumulator value and operand m: ADC #m with C = 0, the host setting C, then SBC #m, restores the accumulator. -/
def Obligations.AdditiveInverse : Prop :=
  ∀ (s : State) (m : Byte), s.flag .C = false →
    ∃ t u, exec (.adcImm m) s = .next t ∧ exec (.sbcImm m) (t.setFlag .C true) = .next u ∧ u.a = s.a

/-- With borrow = 1 - C, SBC of m leaves A - m - borrow modulo 256, C = 1 exactly when A is at least m + borrow, and V = 1 exactly when the signed difference lies outside -128 to 127. -/
def Obligations.SubtractionWithBorrow : Prop :=
  ∀ (s : State) (m : Byte),
    let borrow := 1 - carryIn s
    let t := s.sbcWrite m
    (t.a.toNat : Int) = ((s.a.toNat : Int) - m.toNat - borrow) % 256 ∧
    (t.flag .C = true ↔ m.toNat + borrow ≤ s.a.toNat) ∧
    (t.flag .V = true ↔ ¬ (-128 ≤ signed s.a - signed m - borrow ∧ signed s.a - signed m - borrow ≤ 127))

/-- After ADC of m, V is 1 exactly when the sum of the signed values of A and m and the carry lies outside -128 to 127. -/
def Obligations.OverflowIsSignedOverflow : Prop :=
  ∀ (s : State) (m : Byte),
    (s.adcWrite m).flag .V = true ↔
      ¬ (-128 ≤ signed s.a + signed m + carryIn s ∧ signed s.a + signed m + carryIn s ≤ 127)

/-- For all bytes a, b and carry in, the result and 256 times the carry out make the exact sum a + b + cin, and the overflow output is bit 7 of (a xor r) and not (a xor b). -/
def Obligations.AdderIsExact : Prop :=
  ∀ (a b : Byte) (cin : Bool), (add8 a b cin).1.toNat + 256 * (add8 a b cin).2.1.toNat = a.toNat + b.toNat + cin.toNat ∧
    (add8 a b cin).2.2 = ((a ^^^ (add8 a b cin).1) &&& ~~~ (a ^^^ b)).getLsbD 7

/-- For all bytes and carry in, the generate and propagate form with its two 4-bit lookahead groups, and the overflow as c[8] xor c[7], gives the result, the carry out and the overflow of the exact adder. -/
def Obligations.CarryLookaheadIsTheAdder : Prop :=
  ∀ (a b : Byte) (cin : Bool), carryLookahead a b cin = add8 a b cin ∧
    carryBit a b cin 4 = carry4 a b cin ∧ carryBit a b cin 8 = carry8 a b cin ∧
    ((add8 a b cin).2.2 = true ↔ a.msb = b.msb ∧ (add8 a b cin).1.msb ≠ a.msb)

/-- Implied reads nothing and puts PC in absAddr; Immediate reads the byte at PC into fetched, marks it valid and advances PC by 1; Zero-page reads it and puts it, high byte 0, in absAddr; Absolute reads two bytes, low first, and puts their little-endian value in absAddr; each signals 0 and changes nothing else. -/
def Obligations.UnindexedResolvers : Prop :=
  ∀ s : State,
    resolve .imp s = (false, { s with absAddr := s.pc }) ∧
    (∃ b, RamLaw s s.pc b ∧ resolve .imm s = (false, { s with
        pc := s.pc + 1#16, history := ⟨s.pc, b⟩ :: s.history, reads := s.reads + 1,
        fetched := b, fetchValid := true })) ∧
    (∃ b, RamLaw s s.pc b ∧ resolve .zp0 s = (false, { s with
        pc := s.pc + 1#16, history := ⟨s.pc, b⟩ :: s.history, reads := s.reads + 1,
        absAddr := zpAddr b.toNat })) ∧
    (∃ lo hi, RamLaw s s.pc lo ∧ RamLaw s (s.pc + 1#16) hi ∧ resolve .abs s = (false, { s with
        pc := s.pc + 2#16, history := ⟨s.pc + 1#16, hi⟩ :: ⟨s.pc, lo⟩ :: s.history, reads := s.reads + 2,
        absAddr := word lo hi }))

/-- Zero-page,X reads the byte b at PC and puts (b + X) modulo 256 in absAddr, high byte 0; Zero-page,Y does the same with Y; both signal 0 and change nothing else. -/
def Obligations.ZeroPageIndexedResolvers : Prop :=
  ∀ s : State,
    (∃ b, RamLaw s s.pc b ∧ resolve .zpx s = (false, { s with
        pc := s.pc + 1#16, history := ⟨s.pc, b⟩ :: s.history, reads := s.reads + 1,
        absAddr := zpAddr (b.toNat + s.x.toNat) })) ∧
    (∃ b, RamLaw s s.pc b ∧ resolve .zpy s = (false, { s with
        pc := s.pc + 1#16, history := ⟨s.pc, b⟩ :: s.history, reads := s.reads + 1,
        absAddr := zpAddr (b.toNat + s.y.toNat) }))

/-- Relative reads the byte b at PC and puts b, or b with the high byte FF when bit 7 is set, in relAddr; it signals 0 (the spec's decision D24) and changes nothing else. -/
def Obligations.RelativeResolver : Prop :=
  ∀ s : State, ∃ b, RamLaw s s.pc b ∧ resolve .rel s = (false, { s with
        pc := s.pc + 1#16, history := ⟨s.pc, b⟩ :: s.history, reads := s.reads + 1,
        relAddr := BitVec.ofNat 16 (if b.toNat < 128 then b.toNat else 0xFF00 + b.toNat) })

/-- Absolute,X reads two bytes, low first, and puts their little-endian value plus X modulo 65536 in absAddr; the signal is 1 exactly when the high byte of absAddr differs from that of the base; Absolute,Y does the same with Y; nothing else changes. -/
def Obligations.AbsoluteIndexedResolvers : Prop :=
  ∀ s : State,
    (∃ lo hi, RamLaw s s.pc lo ∧ RamLaw s (s.pc + 1#16) hi ∧
      resolve .abx s = (decide (crossing (word lo hi) (indexed (word lo hi) s.x) = 1), { s with
        pc := s.pc + 2#16, history := ⟨s.pc + 1#16, hi⟩ :: ⟨s.pc, lo⟩ :: s.history, reads := s.reads + 2,
        absAddr := indexed (word lo hi) s.x })) ∧
    (∃ lo hi, RamLaw s s.pc lo ∧ RamLaw s (s.pc + 1#16) hi ∧
      resolve .aby s = (decide (crossing (word lo hi) (indexed (word lo hi) s.y) = 1), { s with
        pc := s.pc + 2#16, history := ⟨s.pc + 1#16, hi⟩ :: ⟨s.pc, lo⟩ :: s.history, reads := s.reads + 2,
        absAddr := indexed (word lo hi) s.y }))

/-- Indirect reads two operand bytes, low first, then the low byte of its target at the pointer and the high byte at the pointer plus 1, or at the start of the pointer's own page when the pointer's low byte is FF, in the order PTR_READ_ORDER gives; absAddr is the target; it signals 0 and changes nothing else. -/
def Obligations.IndirectPageWrap : Prop :=
  ∀ s : State, ∃ lo hi tlo thi : Byte, RamLaw s s.pc lo ∧ RamLaw s (s.pc + 1#16) hi ∧
    let ptrHi : Addr := if lo.toNat = 255 then BitVec.ofNat 16 (256 * hi.toNat) else BitVec.ofNat 16 (lo.toNat + 1 + 256 * hi.toNat)
    RamLaw s (word lo hi) tlo ∧ RamLaw s ptrHi thi ∧
    resolve .ind s = (false,
      { s with
        pc := s.pc + 2#16
        absAddr := word tlo thi
        history := (pairReads s (word lo hi) tlo ptrHi thi).reverse ++ ⟨s.pc + 1#16, hi⟩ :: ⟨s.pc, lo⟩ :: s.history
        reads := s.reads + 4 })

/-- Indexed-indirect (X) reads the byte b at PC and the pointer at (b + X) and (b + X + 1), each modulo 256 in page 0; absAddr is the pointer, the signal 0. Indirect-indexed (Y) reads the pointer at b and b + 1 modulo 256 and puts pointer + Y modulo 65536 in absAddr, with the page-cross signal. The pair is read in the order PTR_READ_ORDER gives, and nothing else changes. -/
def Obligations.ZeroPagePointerResolvers : Prop :=
  ∀ s : State,
    (∃ b lo hi : Byte, RamLaw s s.pc b ∧ RamLaw s (zpAddr (b.toNat + s.x.toNat)) lo ∧
      RamLaw s (zpAddr (b.toNat + s.x.toNat + 1)) hi ∧
      resolve .izx s = (false,
        { s with
          pc := s.pc + 1#16
          absAddr := word lo hi
          history := (pairReads s (zpAddr (b.toNat + s.x.toNat)) lo (zpAddr (b.toNat + s.x.toNat + 1)) hi).reverse ++
            ⟨s.pc, b⟩ :: s.history
          reads := s.reads + 3 })) ∧
    (∃ b lo hi : Byte, RamLaw s s.pc b ∧ RamLaw s (zpAddr b.toNat) lo ∧ RamLaw s (zpAddr (b.toNat + 1)) hi ∧
      resolve .izy s = (decide (crossing (word lo hi) (indexed (word lo hi) s.y) = 1),
        { s with
          pc := s.pc + 1#16
          absAddr := indexed (word lo hi) s.y
          history := (pairReads s (zpAddr b.toNat) lo (zpAddr (b.toNat + 1)) hi).reverse ++ ⟨s.pc, b⟩ :: s.history
          reads := s.reads + 3 }))

/-- Under Immediate, or when the operand is cached, materialization returns it and changes nothing; under Relative with nothing cached it faults; in every other case it makes exactly one read, at absAddr, and caches the byte; and a second call after one that succeeded returns the same byte and changes nothing. That Relative with nothing cached faults is the spec's own decision D24, not the source's words. -/
def Obligations.MaterializationReadsOnce : Prop :=
  ∀ (mode : Mode) (s : State),
    (mode = .imm ∨ s.fetchValid = true → fetchOperand mode s = .ok (s.fetched, s)) ∧
    (mode = .rel → s.fetchValid = false → fetchOperand mode s = .error .unresolvedAbsAddr) ∧
    (mode ≠ .imm → mode ≠ .rel → s.fetchValid = false →
      ∃ m, RamLaw s s.absAddr m ∧ fetchOperand mode s = .ok (m,
        { s with fetched := m, fetchValid := true, history := ⟨s.absAddr, m⟩ :: s.history, reads := s.reads + 1 })) ∧
    (∀ m t, fetchOperand mode s = .ok (m, t) → fetchOperand mode t = .ok (m, t))

/-- When both addresses of a pointer pair are declared RAM, the pair read is the two bytes there under either order; the two orders differ only in the order of the two recorded reads. -/
def Obligations.PointerOrderIsInvisibleInRam : Prop :=
  ∀ (s : State) (aLo aHi : Addr) (lo hi : Byte) (order : PtrReadOrder),
    s.mem.get aLo.toNat = some lo → s.mem.get aHi.toNat = some hi →
    let s' := { s with config := { s.config with ptrReadOrder := order } }
    (s'.read16pair aLo aHi).1 = (lo, hi) ∧
    (s'.read16pair aLo aHi).2 =
      { s' with
        history := (match order with
          | .loFirst => [⟨aHi, hi⟩, ⟨aLo, lo⟩]
          | .hiFirst => [⟨aLo, lo⟩, ⟨aHi, hi⟩]) ++ s.history
        reads := s.reads + 2 }

/-- After setA, setX, setY, setSP or setPC of v the register reads v and every other register, every flag, the hidden state and memory are as before; after setFlag(f, b) the flag reads b and the other seven flags and every register and hidden register are as before. -/
def Obligations.AccessorsWriteExactly : Prop :=
  ∀ s : State,
    (∀ v, (s.setA v).getA = v ∧ { s.setA v with a := s.a } = s) ∧
    (∀ v, (s.setX v).getX = v ∧ { s.setX v with x := s.x } = s) ∧
    (∀ v, (s.setY v).getY = v ∧ { s.setY v with y := s.y } = s) ∧
    (∀ v, (s.setSP v).getSP = v ∧ { s.setSP v with sp := s.sp } = s) ∧
    (∀ v, (s.setPC v).getPC = v ∧ { s.setPC v with pc := s.pc } = s) ∧
    (∀ f b, (s.setFlag f b).flag f = b ∧ (∀ g, g ≠ f → (s.setFlag f b).flag g = s.flag g) ∧
      { s.setFlag f b with p := s.p } = s)

/-- After the host writes v to P as eight flag writes, P is v, P.U = 0 included, and nothing else changes; and P as a number is the sum of its eight flags at their bit positions, C lowest and N highest (R24). That writing P is eight flag writes is the spec's own decision D20 (R40). -/
def Obligations.StatusWriteStoresEveryBit : Prop :=
  (∀ (s : State) (v : Byte), (s.setP v).p = v ∧ { s.setP v with p := s.p } = s) ∧
  ∀ s : State, s.p.toNat =
    128 * (s.flag .N).toNat + 64 * (s.flag .V).toNat + 32 * (s.flag .U).toNat + 16 * (s.flag .B).toNat +
    8 * (s.flag .D).toNat + 4 * (s.flag .I).toNat + 2 * (s.flag .Z).toNat + (s.flag .C).toNat

/-- During the idle pulses of an unrefused state, any host accessor write (A, X, Y, SP, PC, one flag, the whole of P) and any change of memory (a byte placed, a port write) made before a pulse gives what the pulse followed by that change gives; and at a boundary, a byte placed at PC, or written there where it is declared RAM, is the opcode the pulse fetches, and after PC is set the pulse fetches at the new PC. -/
def Obligations.HostChangesDuringIdlePulses : Prop :=
  ∀ s : State, s.refused = false →
    (s.cycles ≠ 0#8 → ∀ c : HostChange, step (c.apply s) = mapState c.apply (step s)) ∧
    (s.cycles = 0#8 → ∀ (b : Byte) (addr : Addr),
      (s.place s.pc b).fetchOpcode.1 = b ∧
      (s.mem.get s.pc.toNat ≠ none → (s.memWrite s.pc b).fetchOpcode.1 = b) ∧
      ∃ v, RamLaw s addr v ∧ (s.setPC addr).fetchOpcode.1 = v ∧
        (s.setPC addr).fetchOpcode.2.history = ⟨addr, v⟩ :: s.history)

/-- A read of an address returns the byte last placed there, or last written there when it is declared RAM; placing or writing at another address leaves its declared byte as it was; a write at an address that is not declared RAM changes nothing. The last clause is the model's reading (log entry 13): R52, R58 and D23 give no law there. -/
def Obligations.RamReturnsTheLastByte : Prop :=
  ∀ (s : State) (addr other : Addr) (b v : Byte),
    ((s.place addr b).memRead addr).1 = b ∧
    (s.mem.get addr.toNat = some v → ((s.memWrite addr b).memRead addr).1 = b) ∧
    (s.mem.get addr.toNat = none → s.memWrite addr b = s) ∧
    (other ≠ addr → (s.place addr b).mem.get other.toNat = s.mem.get other.toNat ∧
      (s.memWrite addr b).mem.get other.toNat = s.mem.get other.toNat)

/-- If two declared memories are in canonical form and hold the same byte, or none, at every address, they are the same list; and every address a canonical memory lists is below 65536. -/
def Obligations.CanonicalMemoryIsUnique : Prop :=
  ∀ m n : Memory, m.wf = true → n.wf = true → (∀ addr : Addr, m.get addr.toNat = n.get addr.toNat) →
    m = n ∧ ∀ c ∈ m, c.1 < 65536

/-- Building a configuration from the two cost maps succeeds if and only if every wired opcode's base cost and every illegal opcode's fill cost is in 1 to 254; and then the table's base cost of each wired or illegal opcode is the cost the maps give it. -/
def Obligations.ConfigurationCheckedAtConstruction : Prop :=
  ∀ (base fill : Byte → Nat) (order : PtrReadOrder),
    ((∃ cfg, Config.build base fill order = .ok cfg) ↔
      (∀ op ∈ wiredOpcodes, 1 ≤ base op ∧ base op ≤ 254) ∧ ∀ op ∈ illegalOpcodes, 1 ≤ fill op ∧ fill op ≤ 254) ∧
    ∀ cfg, Config.build base fill order = .ok cfg → cfg.ptrReadOrder = order ∧
      (∀ op ∈ wiredOpcodes, ∃ mnemonic o mode cost, table cfg op = .run mnemonic o mode cost ∧ cost.value.toNat = base op) ∧
      ∀ op ∈ illegalOpcodes, ∃ cost, table cfg op = .run "???" .fill .imp cost ∧ cost.value.toNat = fill op

/-- Let s and s' be unrefused and differ only in opcode, absAddr, relAddr, fetched and fetchValid. At an instruction boundary a pulse that answers a next state from s answers the very same state from s'; a pulse that refuses an unwired opcode from s refuses it from s', and the states left differ only in absAddr, relAddr and fetched, each as it was. An idle pulse changes none of the five and decides nothing by them. The two runs get the same port answers and the same free values of the resolved-address state (the model's choice, log entries 4 and 7). -/
def Obligations.HiddenRegistersHaveNoEffect : Prop :=
  ∀ (s : State) (h : Hidden), s.refused = false →
    (s.cycles = 0#8 → ∀ t, step s = .next t → step (h.put s) = .next t) ∧
    (s.cycles = 0#8 → ∀ op addr left, step s = .refused (.unwiredOpcode op addr left) →
      step (h.put s) = .refused (.unwiredOpcode op addr
        { left with absAddr := h.absAddr, relAddr := h.relAddr, fetched := h.fetched })) ∧
    (s.cycles ≠ 0#8 → step (h.put s) = mapState h.put (step s))
end

