-- ==== Sys2Proof/Laws/State.lean ====
section
/-! SUPPORT. Laws/State.lean: one lemma for each field of State after each named update, true by definition, so that no proof
unfolds a record update. -/

namespace Sys2Proof.Machine

/-! ### setA -/

@[simp] theorem setA_a (s : State) (v : Byte) : (s.setA v).a = v := rfl
@[simp] theorem setA_x (s : State) (v : Byte) : (s.setA v).x = s.x := rfl
@[simp] theorem setA_y (s : State) (v : Byte) : (s.setA v).y = s.y := rfl
@[simp] theorem setA_sp (s : State) (v : Byte) : (s.setA v).sp = s.sp := rfl
@[simp] theorem setA_pc (s : State) (v : Byte) : (s.setA v).pc = s.pc := rfl
@[simp] theorem setA_p (s : State) (v : Byte) : (s.setA v).p = s.p := rfl
@[simp] theorem setA_opcode (s : State) (v : Byte) : (s.setA v).opcode = s.opcode := rfl
@[simp] theorem setA_absAddr (s : State) (v : Byte) : (s.setA v).absAddr = s.absAddr := rfl
@[simp] theorem setA_relAddr (s : State) (v : Byte) : (s.setA v).relAddr = s.relAddr := rfl
@[simp] theorem setA_fetched (s : State) (v : Byte) : (s.setA v).fetched = s.fetched := rfl
@[simp] theorem setA_fetchValid (s : State) (v : Byte) : (s.setA v).fetchValid = s.fetchValid := rfl
@[simp] theorem setA_cycles (s : State) (v : Byte) : (s.setA v).cycles = s.cycles := rfl
@[simp] theorem setA_refused (s : State) (v : Byte) : (s.setA v).refused = s.refused := rfl
@[simp] theorem setA_mem (s : State) (v : Byte) : (s.setA v).mem = s.mem := rfl
@[simp] theorem setA_history (s : State) (v : Byte) : (s.setA v).history = s.history := rfl
@[simp] theorem setA_reads (s : State) (v : Byte) : (s.setA v).reads = s.reads := rfl
@[simp] theorem setA_stale (s : State) (v : Byte) : (s.setA v).stale = s.stale := rfl
@[simp] theorem setA_config (s : State) (v : Byte) : (s.setA v).config = s.config := rfl

/-! ### setX -/

@[simp] theorem setX_a (s : State) (v : Byte) : (s.setX v).a = s.a := rfl
@[simp] theorem setX_x (s : State) (v : Byte) : (s.setX v).x = v := rfl
@[simp] theorem setX_y (s : State) (v : Byte) : (s.setX v).y = s.y := rfl
@[simp] theorem setX_sp (s : State) (v : Byte) : (s.setX v).sp = s.sp := rfl
@[simp] theorem setX_pc (s : State) (v : Byte) : (s.setX v).pc = s.pc := rfl
@[simp] theorem setX_p (s : State) (v : Byte) : (s.setX v).p = s.p := rfl
@[simp] theorem setX_opcode (s : State) (v : Byte) : (s.setX v).opcode = s.opcode := rfl
@[simp] theorem setX_absAddr (s : State) (v : Byte) : (s.setX v).absAddr = s.absAddr := rfl
@[simp] theorem setX_relAddr (s : State) (v : Byte) : (s.setX v).relAddr = s.relAddr := rfl
@[simp] theorem setX_fetched (s : State) (v : Byte) : (s.setX v).fetched = s.fetched := rfl
@[simp] theorem setX_fetchValid (s : State) (v : Byte) : (s.setX v).fetchValid = s.fetchValid := rfl
@[simp] theorem setX_cycles (s : State) (v : Byte) : (s.setX v).cycles = s.cycles := rfl
@[simp] theorem setX_refused (s : State) (v : Byte) : (s.setX v).refused = s.refused := rfl
@[simp] theorem setX_mem (s : State) (v : Byte) : (s.setX v).mem = s.mem := rfl
@[simp] theorem setX_history (s : State) (v : Byte) : (s.setX v).history = s.history := rfl
@[simp] theorem setX_reads (s : State) (v : Byte) : (s.setX v).reads = s.reads := rfl
@[simp] theorem setX_stale (s : State) (v : Byte) : (s.setX v).stale = s.stale := rfl
@[simp] theorem setX_config (s : State) (v : Byte) : (s.setX v).config = s.config := rfl

/-! ### setY -/

@[simp] theorem setY_a (s : State) (v : Byte) : (s.setY v).a = s.a := rfl
@[simp] theorem setY_x (s : State) (v : Byte) : (s.setY v).x = s.x := rfl
@[simp] theorem setY_y (s : State) (v : Byte) : (s.setY v).y = v := rfl
@[simp] theorem setY_sp (s : State) (v : Byte) : (s.setY v).sp = s.sp := rfl
@[simp] theorem setY_pc (s : State) (v : Byte) : (s.setY v).pc = s.pc := rfl
@[simp] theorem setY_p (s : State) (v : Byte) : (s.setY v).p = s.p := rfl
@[simp] theorem setY_opcode (s : State) (v : Byte) : (s.setY v).opcode = s.opcode := rfl
@[simp] theorem setY_absAddr (s : State) (v : Byte) : (s.setY v).absAddr = s.absAddr := rfl
@[simp] theorem setY_relAddr (s : State) (v : Byte) : (s.setY v).relAddr = s.relAddr := rfl
@[simp] theorem setY_fetched (s : State) (v : Byte) : (s.setY v).fetched = s.fetched := rfl
@[simp] theorem setY_fetchValid (s : State) (v : Byte) : (s.setY v).fetchValid = s.fetchValid := rfl
@[simp] theorem setY_cycles (s : State) (v : Byte) : (s.setY v).cycles = s.cycles := rfl
@[simp] theorem setY_refused (s : State) (v : Byte) : (s.setY v).refused = s.refused := rfl
@[simp] theorem setY_mem (s : State) (v : Byte) : (s.setY v).mem = s.mem := rfl
@[simp] theorem setY_history (s : State) (v : Byte) : (s.setY v).history = s.history := rfl
@[simp] theorem setY_reads (s : State) (v : Byte) : (s.setY v).reads = s.reads := rfl
@[simp] theorem setY_stale (s : State) (v : Byte) : (s.setY v).stale = s.stale := rfl
@[simp] theorem setY_config (s : State) (v : Byte) : (s.setY v).config = s.config := rfl

/-! ### setSP -/

@[simp] theorem setSP_a (s : State) (v : Byte) : (s.setSP v).a = s.a := rfl
@[simp] theorem setSP_x (s : State) (v : Byte) : (s.setSP v).x = s.x := rfl
@[simp] theorem setSP_y (s : State) (v : Byte) : (s.setSP v).y = s.y := rfl
@[simp] theorem setSP_sp (s : State) (v : Byte) : (s.setSP v).sp = v := rfl
@[simp] theorem setSP_pc (s : State) (v : Byte) : (s.setSP v).pc = s.pc := rfl
@[simp] theorem setSP_p (s : State) (v : Byte) : (s.setSP v).p = s.p := rfl
@[simp] theorem setSP_opcode (s : State) (v : Byte) : (s.setSP v).opcode = s.opcode := rfl
@[simp] theorem setSP_absAddr (s : State) (v : Byte) : (s.setSP v).absAddr = s.absAddr := rfl
@[simp] theorem setSP_relAddr (s : State) (v : Byte) : (s.setSP v).relAddr = s.relAddr := rfl
@[simp] theorem setSP_fetched (s : State) (v : Byte) : (s.setSP v).fetched = s.fetched := rfl
@[simp] theorem setSP_fetchValid (s : State) (v : Byte) : (s.setSP v).fetchValid = s.fetchValid := rfl
@[simp] theorem setSP_cycles (s : State) (v : Byte) : (s.setSP v).cycles = s.cycles := rfl
@[simp] theorem setSP_refused (s : State) (v : Byte) : (s.setSP v).refused = s.refused := rfl
@[simp] theorem setSP_mem (s : State) (v : Byte) : (s.setSP v).mem = s.mem := rfl
@[simp] theorem setSP_history (s : State) (v : Byte) : (s.setSP v).history = s.history := rfl
@[simp] theorem setSP_reads (s : State) (v : Byte) : (s.setSP v).reads = s.reads := rfl
@[simp] theorem setSP_stale (s : State) (v : Byte) : (s.setSP v).stale = s.stale := rfl
@[simp] theorem setSP_config (s : State) (v : Byte) : (s.setSP v).config = s.config := rfl

/-! ### setPC -/

@[simp] theorem setPC_a (s : State) (v : Addr) : (s.setPC v).a = s.a := rfl
@[simp] theorem setPC_x (s : State) (v : Addr) : (s.setPC v).x = s.x := rfl
@[simp] theorem setPC_y (s : State) (v : Addr) : (s.setPC v).y = s.y := rfl
@[simp] theorem setPC_sp (s : State) (v : Addr) : (s.setPC v).sp = s.sp := rfl
@[simp] theorem setPC_pc (s : State) (v : Addr) : (s.setPC v).pc = v := rfl
@[simp] theorem setPC_p (s : State) (v : Addr) : (s.setPC v).p = s.p := rfl
@[simp] theorem setPC_opcode (s : State) (v : Addr) : (s.setPC v).opcode = s.opcode := rfl
@[simp] theorem setPC_absAddr (s : State) (v : Addr) : (s.setPC v).absAddr = s.absAddr := rfl
@[simp] theorem setPC_relAddr (s : State) (v : Addr) : (s.setPC v).relAddr = s.relAddr := rfl
@[simp] theorem setPC_fetched (s : State) (v : Addr) : (s.setPC v).fetched = s.fetched := rfl
@[simp] theorem setPC_fetchValid (s : State) (v : Addr) : (s.setPC v).fetchValid = s.fetchValid := rfl
@[simp] theorem setPC_cycles (s : State) (v : Addr) : (s.setPC v).cycles = s.cycles := rfl
@[simp] theorem setPC_refused (s : State) (v : Addr) : (s.setPC v).refused = s.refused := rfl
@[simp] theorem setPC_mem (s : State) (v : Addr) : (s.setPC v).mem = s.mem := rfl
@[simp] theorem setPC_history (s : State) (v : Addr) : (s.setPC v).history = s.history := rfl
@[simp] theorem setPC_reads (s : State) (v : Addr) : (s.setPC v).reads = s.reads := rfl
@[simp] theorem setPC_stale (s : State) (v : Addr) : (s.setPC v).stale = s.stale := rfl
@[simp] theorem setPC_config (s : State) (v : Addr) : (s.setPC v).config = s.config := rfl

/-! ### setFlag -/

@[simp] theorem setFlag_a (s : State) (f : Flag) (b : Bool) : (s.setFlag f b).a = s.a := rfl
@[simp] theorem setFlag_x (s : State) (f : Flag) (b : Bool) : (s.setFlag f b).x = s.x := rfl
@[simp] theorem setFlag_y (s : State) (f : Flag) (b : Bool) : (s.setFlag f b).y = s.y := rfl
@[simp] theorem setFlag_sp (s : State) (f : Flag) (b : Bool) : (s.setFlag f b).sp = s.sp := rfl
@[simp] theorem setFlag_pc (s : State) (f : Flag) (b : Bool) : (s.setFlag f b).pc = s.pc := rfl
@[simp] theorem setFlag_p (s : State) (f : Flag) (b : Bool) : (s.setFlag f b).p = setBit s.p (flagPos f) b := rfl
@[simp] theorem setFlag_opcode (s : State) (f : Flag) (b : Bool) : (s.setFlag f b).opcode = s.opcode := rfl
@[simp] theorem setFlag_absAddr (s : State) (f : Flag) (b : Bool) : (s.setFlag f b).absAddr = s.absAddr := rfl
@[simp] theorem setFlag_relAddr (s : State) (f : Flag) (b : Bool) : (s.setFlag f b).relAddr = s.relAddr := rfl
@[simp] theorem setFlag_fetched (s : State) (f : Flag) (b : Bool) : (s.setFlag f b).fetched = s.fetched := rfl
@[simp] theorem setFlag_fetchValid (s : State) (f : Flag) (b : Bool) : (s.setFlag f b).fetchValid = s.fetchValid := rfl
@[simp] theorem setFlag_cycles (s : State) (f : Flag) (b : Bool) : (s.setFlag f b).cycles = s.cycles := rfl
@[simp] theorem setFlag_refused (s : State) (f : Flag) (b : Bool) : (s.setFlag f b).refused = s.refused := rfl
@[simp] theorem setFlag_mem (s : State) (f : Flag) (b : Bool) : (s.setFlag f b).mem = s.mem := rfl
@[simp] theorem setFlag_history (s : State) (f : Flag) (b : Bool) : (s.setFlag f b).history = s.history := rfl
@[simp] theorem setFlag_reads (s : State) (f : Flag) (b : Bool) : (s.setFlag f b).reads = s.reads := rfl
@[simp] theorem setFlag_stale (s : State) (f : Flag) (b : Bool) : (s.setFlag f b).stale = s.stale := rfl
@[simp] theorem setFlag_config (s : State) (f : Flag) (b : Bool) : (s.setFlag f b).config = s.config := rfl

/-! ### forceU -/

@[simp] theorem forceU_a (s : State) : s.forceU.a = s.a := rfl
@[simp] theorem forceU_x (s : State) : s.forceU.x = s.x := rfl
@[simp] theorem forceU_y (s : State) : s.forceU.y = s.y := rfl
@[simp] theorem forceU_sp (s : State) : s.forceU.sp = s.sp := rfl
@[simp] theorem forceU_pc (s : State) : s.forceU.pc = s.pc := rfl
@[simp] theorem forceU_p (s : State) : s.forceU.p = setBit s.p 5 true := rfl
@[simp] theorem forceU_opcode (s : State) : s.forceU.opcode = s.opcode := rfl
@[simp] theorem forceU_absAddr (s : State) : s.forceU.absAddr = s.absAddr := rfl
@[simp] theorem forceU_relAddr (s : State) : s.forceU.relAddr = s.relAddr := rfl
@[simp] theorem forceU_fetched (s : State) : s.forceU.fetched = s.fetched := rfl
@[simp] theorem forceU_fetchValid (s : State) : s.forceU.fetchValid = s.fetchValid := rfl
@[simp] theorem forceU_cycles (s : State) : s.forceU.cycles = s.cycles := rfl
@[simp] theorem forceU_refused (s : State) : s.forceU.refused = s.refused := rfl
@[simp] theorem forceU_mem (s : State) : s.forceU.mem = s.mem := rfl
@[simp] theorem forceU_history (s : State) : s.forceU.history = s.history := rfl
@[simp] theorem forceU_reads (s : State) : s.forceU.reads = s.reads := rfl
@[simp] theorem forceU_stale (s : State) : s.forceU.stale = s.stale := rfl
@[simp] theorem forceU_config (s : State) : s.forceU.config = s.config := rfl

/-! ### loadCycles -/

@[simp] theorem loadCycles_a (s : State) (c : Cost) : (s.loadCycles c).a = s.a := rfl
@[simp] theorem loadCycles_x (s : State) (c : Cost) : (s.loadCycles c).x = s.x := rfl
@[simp] theorem loadCycles_y (s : State) (c : Cost) : (s.loadCycles c).y = s.y := rfl
@[simp] theorem loadCycles_sp (s : State) (c : Cost) : (s.loadCycles c).sp = s.sp := rfl
@[simp] theorem loadCycles_pc (s : State) (c : Cost) : (s.loadCycles c).pc = s.pc := rfl
@[simp] theorem loadCycles_p (s : State) (c : Cost) : (s.loadCycles c).p = s.p := rfl
@[simp] theorem loadCycles_opcode (s : State) (c : Cost) : (s.loadCycles c).opcode = s.opcode := rfl
@[simp] theorem loadCycles_absAddr (s : State) (c : Cost) : (s.loadCycles c).absAddr = s.absAddr := rfl
@[simp] theorem loadCycles_relAddr (s : State) (c : Cost) : (s.loadCycles c).relAddr = s.relAddr := rfl
@[simp] theorem loadCycles_fetched (s : State) (c : Cost) : (s.loadCycles c).fetched = s.fetched := rfl
@[simp] theorem loadCycles_fetchValid (s : State) (c : Cost) : (s.loadCycles c).fetchValid = s.fetchValid := rfl
@[simp] theorem loadCycles_cycles (s : State) (c : Cost) : (s.loadCycles c).cycles = c.value := rfl
@[simp] theorem loadCycles_refused (s : State) (c : Cost) : (s.loadCycles c).refused = s.refused := rfl
@[simp] theorem loadCycles_mem (s : State) (c : Cost) : (s.loadCycles c).mem = s.mem := rfl
@[simp] theorem loadCycles_history (s : State) (c : Cost) : (s.loadCycles c).history = s.history := rfl
@[simp] theorem loadCycles_reads (s : State) (c : Cost) : (s.loadCycles c).reads = s.reads := rfl
@[simp] theorem loadCycles_stale (s : State) (c : Cost) : (s.loadCycles c).stale = s.stale := rfl
@[simp] theorem loadCycles_config (s : State) (c : Cost) : (s.loadCycles c).config = s.config := rfl

/-! ### grantExtra -/

@[simp] theorem grantExtra_a (s : State) (e : Bool) : (s.grantExtra e).a = s.a := rfl
@[simp] theorem grantExtra_x (s : State) (e : Bool) : (s.grantExtra e).x = s.x := rfl
@[simp] theorem grantExtra_y (s : State) (e : Bool) : (s.grantExtra e).y = s.y := rfl
@[simp] theorem grantExtra_sp (s : State) (e : Bool) : (s.grantExtra e).sp = s.sp := rfl
@[simp] theorem grantExtra_pc (s : State) (e : Bool) : (s.grantExtra e).pc = s.pc := rfl
@[simp] theorem grantExtra_p (s : State) (e : Bool) : (s.grantExtra e).p = s.p := rfl
@[simp] theorem grantExtra_opcode (s : State) (e : Bool) : (s.grantExtra e).opcode = s.opcode := rfl
@[simp] theorem grantExtra_absAddr (s : State) (e : Bool) : (s.grantExtra e).absAddr = s.absAddr := rfl
@[simp] theorem grantExtra_relAddr (s : State) (e : Bool) : (s.grantExtra e).relAddr = s.relAddr := rfl
@[simp] theorem grantExtra_fetched (s : State) (e : Bool) : (s.grantExtra e).fetched = s.fetched := rfl
@[simp] theorem grantExtra_fetchValid (s : State) (e : Bool) : (s.grantExtra e).fetchValid = s.fetchValid := rfl
@[simp] theorem grantExtra_cycles (s : State) (e : Bool) : (s.grantExtra e).cycles = s.cycles + (BitVec.ofBool e).zeroExtend 8 := rfl
@[simp] theorem grantExtra_refused (s : State) (e : Bool) : (s.grantExtra e).refused = s.refused := rfl
@[simp] theorem grantExtra_mem (s : State) (e : Bool) : (s.grantExtra e).mem = s.mem := rfl
@[simp] theorem grantExtra_history (s : State) (e : Bool) : (s.grantExtra e).history = s.history := rfl
@[simp] theorem grantExtra_reads (s : State) (e : Bool) : (s.grantExtra e).reads = s.reads := rfl
@[simp] theorem grantExtra_stale (s : State) (e : Bool) : (s.grantExtra e).stale = s.stale := rfl
@[simp] theorem grantExtra_config (s : State) (e : Bool) : (s.grantExtra e).config = s.config := rfl

/-! ### tick -/

@[simp] theorem tick_a (s : State) : s.tick.a = s.a := rfl
@[simp] theorem tick_x (s : State) : s.tick.x = s.x := rfl
@[simp] theorem tick_y (s : State) : s.tick.y = s.y := rfl
@[simp] theorem tick_sp (s : State) : s.tick.sp = s.sp := rfl
@[simp] theorem tick_pc (s : State) : s.tick.pc = s.pc := rfl
@[simp] theorem tick_p (s : State) : s.tick.p = s.p := rfl
@[simp] theorem tick_opcode (s : State) : s.tick.opcode = s.opcode := rfl
@[simp] theorem tick_absAddr (s : State) : s.tick.absAddr = s.absAddr := rfl
@[simp] theorem tick_relAddr (s : State) : s.tick.relAddr = s.relAddr := rfl
@[simp] theorem tick_fetched (s : State) : s.tick.fetched = s.fetched := rfl
@[simp] theorem tick_fetchValid (s : State) : s.tick.fetchValid = s.fetchValid := rfl
@[simp] theorem tick_cycles (s : State) : s.tick.cycles = s.cycles - 1#8 := rfl
@[simp] theorem tick_refused (s : State) : s.tick.refused = s.refused := rfl
@[simp] theorem tick_mem (s : State) : s.tick.mem = s.mem := rfl
@[simp] theorem tick_history (s : State) : s.tick.history = s.history := rfl
@[simp] theorem tick_reads (s : State) : s.tick.reads = s.reads := rfl
@[simp] theorem tick_stale (s : State) : s.tick.stale = s.stale := rfl
@[simp] theorem tick_config (s : State) : s.tick.config = s.config := rfl

/-! ### invalidate -/

@[simp] theorem invalidate_a (s : State) : s.invalidate.a = s.a := rfl
@[simp] theorem invalidate_x (s : State) : s.invalidate.x = s.x := rfl
@[simp] theorem invalidate_y (s : State) : s.invalidate.y = s.y := rfl
@[simp] theorem invalidate_sp (s : State) : s.invalidate.sp = s.sp := rfl
@[simp] theorem invalidate_pc (s : State) : s.invalidate.pc = s.pc := rfl
@[simp] theorem invalidate_p (s : State) : s.invalidate.p = s.p := rfl
@[simp] theorem invalidate_opcode (s : State) : s.invalidate.opcode = s.opcode := rfl
@[simp] theorem invalidate_absAddr (s : State) : s.invalidate.absAddr = Config.staleAbsAddr s.stale := rfl
@[simp] theorem invalidate_relAddr (s : State) : s.invalidate.relAddr = Config.staleRelAddr s.stale := rfl
@[simp] theorem invalidate_fetched (s : State) : s.invalidate.fetched = Config.staleFetched s.stale := rfl
@[simp] theorem invalidate_fetchValid (s : State) : s.invalidate.fetchValid = s.fetchValid := rfl
@[simp] theorem invalidate_cycles (s : State) : s.invalidate.cycles = s.cycles := rfl
@[simp] theorem invalidate_refused (s : State) : s.invalidate.refused = s.refused := rfl
@[simp] theorem invalidate_mem (s : State) : s.invalidate.mem = s.mem := rfl
@[simp] theorem invalidate_history (s : State) : s.invalidate.history = s.history := rfl
@[simp] theorem invalidate_reads (s : State) : s.invalidate.reads = s.reads := rfl
@[simp] theorem invalidate_stale (s : State) : s.invalidate.stale = s.stale + 1 := rfl
@[simp] theorem invalidate_config (s : State) : s.invalidate.config = s.config := rfl

/-! ### place -/

@[simp] theorem place_a (s : State) (addr : Addr) (b : Byte) : (s.place addr b).a = s.a := rfl
@[simp] theorem place_x (s : State) (addr : Addr) (b : Byte) : (s.place addr b).x = s.x := rfl
@[simp] theorem place_y (s : State) (addr : Addr) (b : Byte) : (s.place addr b).y = s.y := rfl
@[simp] theorem place_sp (s : State) (addr : Addr) (b : Byte) : (s.place addr b).sp = s.sp := rfl
@[simp] theorem place_pc (s : State) (addr : Addr) (b : Byte) : (s.place addr b).pc = s.pc := rfl
@[simp] theorem place_p (s : State) (addr : Addr) (b : Byte) : (s.place addr b).p = s.p := rfl
@[simp] theorem place_opcode (s : State) (addr : Addr) (b : Byte) : (s.place addr b).opcode = s.opcode := rfl
@[simp] theorem place_absAddr (s : State) (addr : Addr) (b : Byte) : (s.place addr b).absAddr = s.absAddr := rfl
@[simp] theorem place_relAddr (s : State) (addr : Addr) (b : Byte) : (s.place addr b).relAddr = s.relAddr := rfl
@[simp] theorem place_fetched (s : State) (addr : Addr) (b : Byte) : (s.place addr b).fetched = s.fetched := rfl
@[simp] theorem place_fetchValid (s : State) (addr : Addr) (b : Byte) : (s.place addr b).fetchValid = s.fetchValid := rfl
@[simp] theorem place_cycles (s : State) (addr : Addr) (b : Byte) : (s.place addr b).cycles = s.cycles := rfl
@[simp] theorem place_refused (s : State) (addr : Addr) (b : Byte) : (s.place addr b).refused = s.refused := rfl
@[simp] theorem place_mem (s : State) (addr : Addr) (b : Byte) : (s.place addr b).mem = s.mem.put addr.toNat b := rfl
@[simp] theorem place_history (s : State) (addr : Addr) (b : Byte) : (s.place addr b).history = s.history := rfl
@[simp] theorem place_reads (s : State) (addr : Addr) (b : Byte) : (s.place addr b).reads = s.reads := rfl
@[simp] theorem place_stale (s : State) (addr : Addr) (b : Byte) : (s.place addr b).stale = s.stale := rfl
@[simp] theorem place_config (s : State) (addr : Addr) (b : Byte) : (s.place addr b).config = s.config := rfl

/-! ### memWrite -/

@[simp] theorem memWrite_a (s : State) (addr : Addr) (b : Byte) : (s.memWrite addr b).a = s.a := rfl
@[simp] theorem memWrite_x (s : State) (addr : Addr) (b : Byte) : (s.memWrite addr b).x = s.x := rfl
@[simp] theorem memWrite_y (s : State) (addr : Addr) (b : Byte) : (s.memWrite addr b).y = s.y := rfl
@[simp] theorem memWrite_sp (s : State) (addr : Addr) (b : Byte) : (s.memWrite addr b).sp = s.sp := rfl
@[simp] theorem memWrite_pc (s : State) (addr : Addr) (b : Byte) : (s.memWrite addr b).pc = s.pc := rfl
@[simp] theorem memWrite_p (s : State) (addr : Addr) (b : Byte) : (s.memWrite addr b).p = s.p := rfl
@[simp] theorem memWrite_opcode (s : State) (addr : Addr) (b : Byte) : (s.memWrite addr b).opcode = s.opcode := rfl
@[simp] theorem memWrite_absAddr (s : State) (addr : Addr) (b : Byte) : (s.memWrite addr b).absAddr = s.absAddr := rfl
@[simp] theorem memWrite_relAddr (s : State) (addr : Addr) (b : Byte) : (s.memWrite addr b).relAddr = s.relAddr := rfl
@[simp] theorem memWrite_fetched (s : State) (addr : Addr) (b : Byte) : (s.memWrite addr b).fetched = s.fetched := rfl
@[simp] theorem memWrite_fetchValid (s : State) (addr : Addr) (b : Byte) : (s.memWrite addr b).fetchValid = s.fetchValid := rfl
@[simp] theorem memWrite_cycles (s : State) (addr : Addr) (b : Byte) : (s.memWrite addr b).cycles = s.cycles := rfl
@[simp] theorem memWrite_refused (s : State) (addr : Addr) (b : Byte) : (s.memWrite addr b).refused = s.refused := rfl
@[simp] theorem memWrite_mem (s : State) (addr : Addr) (b : Byte) : (s.memWrite addr b).mem = s.mem.update addr.toNat b := rfl
@[simp] theorem memWrite_history (s : State) (addr : Addr) (b : Byte) : (s.memWrite addr b).history = s.history := rfl
@[simp] theorem memWrite_reads (s : State) (addr : Addr) (b : Byte) : (s.memWrite addr b).reads = s.reads := rfl
@[simp] theorem memWrite_stale (s : State) (addr : Addr) (b : Byte) : (s.memWrite addr b).stale = s.stale := rfl
@[simp] theorem memWrite_config (s : State) (addr : Addr) (b : Byte) : (s.memWrite addr b).config = s.config := rfl

/-! ### memRead -/

@[simp] theorem memRead_a (s : State) (addr : Addr) : (s.memRead addr).2.a = s.a := rfl
@[simp] theorem memRead_x (s : State) (addr : Addr) : (s.memRead addr).2.x = s.x := rfl
@[simp] theorem memRead_y (s : State) (addr : Addr) : (s.memRead addr).2.y = s.y := rfl
@[simp] theorem memRead_sp (s : State) (addr : Addr) : (s.memRead addr).2.sp = s.sp := rfl
@[simp] theorem memRead_pc (s : State) (addr : Addr) : (s.memRead addr).2.pc = s.pc := rfl
@[simp] theorem memRead_p (s : State) (addr : Addr) : (s.memRead addr).2.p = s.p := rfl
@[simp] theorem memRead_opcode (s : State) (addr : Addr) : (s.memRead addr).2.opcode = s.opcode := rfl
@[simp] theorem memRead_absAddr (s : State) (addr : Addr) : (s.memRead addr).2.absAddr = s.absAddr := rfl
@[simp] theorem memRead_relAddr (s : State) (addr : Addr) : (s.memRead addr).2.relAddr = s.relAddr := rfl
@[simp] theorem memRead_fetched (s : State) (addr : Addr) : (s.memRead addr).2.fetched = s.fetched := rfl
@[simp] theorem memRead_fetchValid (s : State) (addr : Addr) : (s.memRead addr).2.fetchValid = s.fetchValid := rfl
@[simp] theorem memRead_cycles (s : State) (addr : Addr) : (s.memRead addr).2.cycles = s.cycles := rfl
@[simp] theorem memRead_refused (s : State) (addr : Addr) : (s.memRead addr).2.refused = s.refused := rfl
@[simp] theorem memRead_mem (s : State) (addr : Addr) : (s.memRead addr).2.mem = s.mem := rfl
@[simp] theorem memRead_history (s : State) (addr : Addr) : (s.memRead addr).2.history = ⟨addr, s.portAnswer addr⟩ :: s.history := rfl
@[simp] theorem memRead_reads (s : State) (addr : Addr) : (s.memRead addr).2.reads = s.reads + 1 := rfl
@[simp] theorem memRead_stale (s : State) (addr : Addr) : (s.memRead addr).2.stale = s.stale := rfl
@[simp] theorem memRead_config (s : State) (addr : Addr) : (s.memRead addr).2.config = s.config := rfl

/-! ### fetchNext -/

@[simp] theorem fetchNext_a (s : State) : s.fetchNext.2.a = s.a := rfl
@[simp] theorem fetchNext_x (s : State) : s.fetchNext.2.x = s.x := rfl
@[simp] theorem fetchNext_y (s : State) : s.fetchNext.2.y = s.y := rfl
@[simp] theorem fetchNext_sp (s : State) : s.fetchNext.2.sp = s.sp := rfl
@[simp] theorem fetchNext_pc (s : State) : s.fetchNext.2.pc = s.pc + 1#16 := rfl
@[simp] theorem fetchNext_p (s : State) : s.fetchNext.2.p = s.p := rfl
@[simp] theorem fetchNext_opcode (s : State) : s.fetchNext.2.opcode = s.opcode := rfl
@[simp] theorem fetchNext_absAddr (s : State) : s.fetchNext.2.absAddr = s.absAddr := rfl
@[simp] theorem fetchNext_relAddr (s : State) : s.fetchNext.2.relAddr = s.relAddr := rfl
@[simp] theorem fetchNext_fetched (s : State) : s.fetchNext.2.fetched = s.fetched := rfl
@[simp] theorem fetchNext_fetchValid (s : State) : s.fetchNext.2.fetchValid = s.fetchValid := rfl
@[simp] theorem fetchNext_cycles (s : State) : s.fetchNext.2.cycles = s.cycles := rfl
@[simp] theorem fetchNext_refused (s : State) : s.fetchNext.2.refused = s.refused := rfl
@[simp] theorem fetchNext_mem (s : State) : s.fetchNext.2.mem = s.mem := rfl
@[simp] theorem fetchNext_history (s : State) : s.fetchNext.2.history = ⟨s.pc, s.portAnswer s.pc⟩ :: s.history := rfl
@[simp] theorem fetchNext_reads (s : State) : s.fetchNext.2.reads = s.reads + 1 := rfl
@[simp] theorem fetchNext_stale (s : State) : s.fetchNext.2.stale = s.stale := rfl
@[simp] theorem fetchNext_config (s : State) : s.fetchNext.2.config = s.config := rfl

/-! ### fetchOpcode -/

@[simp] theorem fetchOpcode_a (s : State) : s.fetchOpcode.2.a = s.a := rfl
@[simp] theorem fetchOpcode_x (s : State) : s.fetchOpcode.2.x = s.x := rfl
@[simp] theorem fetchOpcode_y (s : State) : s.fetchOpcode.2.y = s.y := rfl
@[simp] theorem fetchOpcode_sp (s : State) : s.fetchOpcode.2.sp = s.sp := rfl
@[simp] theorem fetchOpcode_pc (s : State) : s.fetchOpcode.2.pc = s.pc + 1#16 := rfl
@[simp] theorem fetchOpcode_p (s : State) : s.fetchOpcode.2.p = s.p := rfl
@[simp] theorem fetchOpcode_opcode (s : State) : s.fetchOpcode.2.opcode = s.portAnswer s.pc := rfl
@[simp] theorem fetchOpcode_absAddr (s : State) : s.fetchOpcode.2.absAddr = s.absAddr := rfl
@[simp] theorem fetchOpcode_relAddr (s : State) : s.fetchOpcode.2.relAddr = s.relAddr := rfl
@[simp] theorem fetchOpcode_fetched (s : State) : s.fetchOpcode.2.fetched = s.fetched := rfl
@[simp] theorem fetchOpcode_fetchValid (s : State) : s.fetchOpcode.2.fetchValid = false := rfl
@[simp] theorem fetchOpcode_cycles (s : State) : s.fetchOpcode.2.cycles = s.cycles := rfl
@[simp] theorem fetchOpcode_refused (s : State) : s.fetchOpcode.2.refused = s.refused := rfl
@[simp] theorem fetchOpcode_mem (s : State) : s.fetchOpcode.2.mem = s.mem := rfl
@[simp] theorem fetchOpcode_history (s : State) : s.fetchOpcode.2.history = ⟨s.pc, s.portAnswer s.pc⟩ :: s.history := rfl
@[simp] theorem fetchOpcode_reads (s : State) : s.fetchOpcode.2.reads = s.reads + 1 := rfl
@[simp] theorem fetchOpcode_stale (s : State) : s.fetchOpcode.2.stale = s.stale := rfl
@[simp] theorem fetchOpcode_config (s : State) : s.fetchOpcode.2.config = s.config := rfl

/-! ### materialize -/

@[simp] theorem materialize_a (s : State) : s.materialize.2.a = s.a := rfl
@[simp] theorem materialize_x (s : State) : s.materialize.2.x = s.x := rfl
@[simp] theorem materialize_y (s : State) : s.materialize.2.y = s.y := rfl
@[simp] theorem materialize_sp (s : State) : s.materialize.2.sp = s.sp := rfl
@[simp] theorem materialize_pc (s : State) : s.materialize.2.pc = s.pc := rfl
@[simp] theorem materialize_p (s : State) : s.materialize.2.p = s.p := rfl
@[simp] theorem materialize_opcode (s : State) : s.materialize.2.opcode = s.opcode := rfl
@[simp] theorem materialize_absAddr (s : State) : s.materialize.2.absAddr = s.absAddr := rfl
@[simp] theorem materialize_relAddr (s : State) : s.materialize.2.relAddr = s.relAddr := rfl
@[simp] theorem materialize_fetched (s : State) : s.materialize.2.fetched = s.portAnswer s.absAddr := rfl
@[simp] theorem materialize_fetchValid (s : State) : s.materialize.2.fetchValid = true := rfl
@[simp] theorem materialize_cycles (s : State) : s.materialize.2.cycles = s.cycles := rfl
@[simp] theorem materialize_refused (s : State) : s.materialize.2.refused = s.refused := rfl
@[simp] theorem materialize_mem (s : State) : s.materialize.2.mem = s.mem := rfl
@[simp] theorem materialize_history (s : State) : s.materialize.2.history = ⟨s.absAddr, s.portAnswer s.absAddr⟩ :: s.history := rfl
@[simp] theorem materialize_reads (s : State) : s.materialize.2.reads = s.reads + 1 := rfl
@[simp] theorem materialize_stale (s : State) : s.materialize.2.stale = s.stale := rfl
@[simp] theorem materialize_config (s : State) : s.materialize.2.config = s.config := rfl

/-! ### resolved -/

@[simp] theorem resolved_a (s : State) (addr : Addr) (sig : Bool) : (s.resolved addr sig).2.a = s.a := rfl
@[simp] theorem resolved_x (s : State) (addr : Addr) (sig : Bool) : (s.resolved addr sig).2.x = s.x := rfl
@[simp] theorem resolved_y (s : State) (addr : Addr) (sig : Bool) : (s.resolved addr sig).2.y = s.y := rfl
@[simp] theorem resolved_sp (s : State) (addr : Addr) (sig : Bool) : (s.resolved addr sig).2.sp = s.sp := rfl
@[simp] theorem resolved_pc (s : State) (addr : Addr) (sig : Bool) : (s.resolved addr sig).2.pc = s.pc := rfl
@[simp] theorem resolved_p (s : State) (addr : Addr) (sig : Bool) : (s.resolved addr sig).2.p = s.p := rfl
@[simp] theorem resolved_opcode (s : State) (addr : Addr) (sig : Bool) : (s.resolved addr sig).2.opcode = s.opcode := rfl
@[simp] theorem resolved_absAddr (s : State) (addr : Addr) (sig : Bool) : (s.resolved addr sig).2.absAddr = addr := rfl
@[simp] theorem resolved_relAddr (s : State) (addr : Addr) (sig : Bool) : (s.resolved addr sig).2.relAddr = s.relAddr := rfl
@[simp] theorem resolved_fetched (s : State) (addr : Addr) (sig : Bool) : (s.resolved addr sig).2.fetched = s.fetched := rfl
@[simp] theorem resolved_fetchValid (s : State) (addr : Addr) (sig : Bool) : (s.resolved addr sig).2.fetchValid = s.fetchValid := rfl
@[simp] theorem resolved_cycles (s : State) (addr : Addr) (sig : Bool) : (s.resolved addr sig).2.cycles = s.cycles := rfl
@[simp] theorem resolved_refused (s : State) (addr : Addr) (sig : Bool) : (s.resolved addr sig).2.refused = s.refused := rfl
@[simp] theorem resolved_mem (s : State) (addr : Addr) (sig : Bool) : (s.resolved addr sig).2.mem = s.mem := rfl
@[simp] theorem resolved_history (s : State) (addr : Addr) (sig : Bool) : (s.resolved addr sig).2.history = s.history := rfl
@[simp] theorem resolved_reads (s : State) (addr : Addr) (sig : Bool) : (s.resolved addr sig).2.reads = s.reads := rfl
@[simp] theorem resolved_stale (s : State) (addr : Addr) (sig : Bool) : (s.resolved addr sig).2.stale = s.stale := rfl
@[simp] theorem resolved_config (s : State) (addr : Addr) (sig : Bool) : (s.resolved addr sig).2.config = s.config := rfl

/-! ### writeSum -/

@[simp] theorem writeSum_a (s : State) (r : Byte × Bool × Bool) : (s.writeSum r).a = r.1 := rfl
@[simp] theorem writeSum_x (s : State) (r : Byte × Bool × Bool) : (s.writeSum r).x = s.x := rfl
@[simp] theorem writeSum_y (s : State) (r : Byte × Bool × Bool) : (s.writeSum r).y = s.y := rfl
@[simp] theorem writeSum_sp (s : State) (r : Byte × Bool × Bool) : (s.writeSum r).sp = s.sp := rfl
@[simp] theorem writeSum_pc (s : State) (r : Byte × Bool × Bool) : (s.writeSum r).pc = s.pc := rfl
@[simp] theorem writeSum_p (s : State) (r : Byte × Bool × Bool) : (s.writeSum r).p = setBit (setBit (setBit (setBit s.p 0 r.2.1) 1 (decide (r.1 = 0#8))) 6 r.2.2) 7 (r.1.getLsbD 7) := rfl
@[simp] theorem writeSum_opcode (s : State) (r : Byte × Bool × Bool) : (s.writeSum r).opcode = s.opcode := rfl
@[simp] theorem writeSum_absAddr (s : State) (r : Byte × Bool × Bool) : (s.writeSum r).absAddr = s.absAddr := rfl
@[simp] theorem writeSum_relAddr (s : State) (r : Byte × Bool × Bool) : (s.writeSum r).relAddr = s.relAddr := rfl
@[simp] theorem writeSum_fetched (s : State) (r : Byte × Bool × Bool) : (s.writeSum r).fetched = s.fetched := rfl
@[simp] theorem writeSum_fetchValid (s : State) (r : Byte × Bool × Bool) : (s.writeSum r).fetchValid = s.fetchValid := rfl
@[simp] theorem writeSum_cycles (s : State) (r : Byte × Bool × Bool) : (s.writeSum r).cycles = s.cycles := rfl
@[simp] theorem writeSum_refused (s : State) (r : Byte × Bool × Bool) : (s.writeSum r).refused = s.refused := rfl
@[simp] theorem writeSum_mem (s : State) (r : Byte × Bool × Bool) : (s.writeSum r).mem = s.mem := rfl
@[simp] theorem writeSum_history (s : State) (r : Byte × Bool × Bool) : (s.writeSum r).history = s.history := rfl
@[simp] theorem writeSum_reads (s : State) (r : Byte × Bool × Bool) : (s.writeSum r).reads = s.reads := rfl
@[simp] theorem writeSum_stale (s : State) (r : Byte × Bool × Bool) : (s.writeSum r).stale = s.stale := rfl
@[simp] theorem writeSum_config (s : State) (r : Byte × Bool × Bool) : (s.writeSum r).config = s.config := rfl

/-! ### beginEntry -/

@[simp] theorem beginEntry_a (s : State) (base : Cost) : (s.beginEntry base).a = s.a := rfl
@[simp] theorem beginEntry_x (s : State) (base : Cost) : (s.beginEntry base).x = s.x := rfl
@[simp] theorem beginEntry_y (s : State) (base : Cost) : (s.beginEntry base).y = s.y := rfl
@[simp] theorem beginEntry_sp (s : State) (base : Cost) : (s.beginEntry base).sp = s.sp := rfl
@[simp] theorem beginEntry_pc (s : State) (base : Cost) : (s.beginEntry base).pc = s.pc := rfl
@[simp] theorem beginEntry_p (s : State) (base : Cost) : (s.beginEntry base).p = setBit s.p 5 true := rfl
@[simp] theorem beginEntry_opcode (s : State) (base : Cost) : (s.beginEntry base).opcode = s.opcode := rfl
@[simp] theorem beginEntry_absAddr (s : State) (base : Cost) : (s.beginEntry base).absAddr = Config.staleAbsAddr s.stale := rfl
@[simp] theorem beginEntry_relAddr (s : State) (base : Cost) : (s.beginEntry base).relAddr = Config.staleRelAddr s.stale := rfl
@[simp] theorem beginEntry_fetched (s : State) (base : Cost) : (s.beginEntry base).fetched = Config.staleFetched s.stale := rfl
@[simp] theorem beginEntry_fetchValid (s : State) (base : Cost) : (s.beginEntry base).fetchValid = s.fetchValid := rfl
@[simp] theorem beginEntry_cycles (s : State) (base : Cost) : (s.beginEntry base).cycles = base.value := rfl
@[simp] theorem beginEntry_refused (s : State) (base : Cost) : (s.beginEntry base).refused = s.refused := rfl
@[simp] theorem beginEntry_mem (s : State) (base : Cost) : (s.beginEntry base).mem = s.mem := rfl
@[simp] theorem beginEntry_history (s : State) (base : Cost) : (s.beginEntry base).history = s.history := rfl
@[simp] theorem beginEntry_reads (s : State) (base : Cost) : (s.beginEntry base).reads = s.reads := rfl
@[simp] theorem beginEntry_stale (s : State) (base : Cost) : (s.beginEntry base).stale = s.stale + 1 := rfl
@[simp] theorem beginEntry_config (s : State) (base : Cost) : (s.beginEntry base).config = s.config := rfl

/-! ### endEntry -/

@[simp] theorem endEntry_a (s : State) (sigA sigB : Bool) : (s.endEntry sigA sigB).a = s.a := rfl
@[simp] theorem endEntry_x (s : State) (sigA sigB : Bool) : (s.endEntry sigA sigB).x = s.x := rfl
@[simp] theorem endEntry_y (s : State) (sigA sigB : Bool) : (s.endEntry sigA sigB).y = s.y := rfl
@[simp] theorem endEntry_sp (s : State) (sigA sigB : Bool) : (s.endEntry sigA sigB).sp = s.sp := rfl
@[simp] theorem endEntry_pc (s : State) (sigA sigB : Bool) : (s.endEntry sigA sigB).pc = s.pc := rfl
@[simp] theorem endEntry_p (s : State) (sigA sigB : Bool) : (s.endEntry sigA sigB).p = setBit s.p 5 true := rfl
@[simp] theorem endEntry_opcode (s : State) (sigA sigB : Bool) : (s.endEntry sigA sigB).opcode = s.opcode := rfl
@[simp] theorem endEntry_absAddr (s : State) (sigA sigB : Bool) : (s.endEntry sigA sigB).absAddr = s.absAddr := rfl
@[simp] theorem endEntry_relAddr (s : State) (sigA sigB : Bool) : (s.endEntry sigA sigB).relAddr = s.relAddr := rfl
@[simp] theorem endEntry_fetched (s : State) (sigA sigB : Bool) : (s.endEntry sigA sigB).fetched = s.fetched := rfl
@[simp] theorem endEntry_fetchValid (s : State) (sigA sigB : Bool) : (s.endEntry sigA sigB).fetchValid = s.fetchValid := rfl
@[simp] theorem endEntry_cycles (s : State) (sigA sigB : Bool) : (s.endEntry sigA sigB).cycles = s.cycles + (BitVec.ofBool (sigA && sigB)).zeroExtend 8 - 1#8 := rfl
@[simp] theorem endEntry_refused (s : State) (sigA sigB : Bool) : (s.endEntry sigA sigB).refused = s.refused := rfl
@[simp] theorem endEntry_mem (s : State) (sigA sigB : Bool) : (s.endEntry sigA sigB).mem = s.mem := rfl
@[simp] theorem endEntry_history (s : State) (sigA sigB : Bool) : (s.endEntry sigA sigB).history = s.history := rfl
@[simp] theorem endEntry_reads (s : State) (sigA sigB : Bool) : (s.endEntry sigA sigB).reads = s.reads := rfl
@[simp] theorem endEntry_stale (s : State) (sigA sigB : Bool) : (s.endEntry sigA sigB).stale = s.stale := rfl
@[simp] theorem endEntry_config (s : State) (sigA sigB : Bool) : (s.endEntry sigA sigB).config = s.config := rfl

/-! ### What the reading operations return -/

@[simp] theorem memRead_byte (s : State) (addr : Addr) : (s.memRead addr).1 = s.portAnswer addr := rfl
@[simp] theorem fetchNext_byte (s : State) : s.fetchNext.1 = s.portAnswer s.pc := rfl
@[simp] theorem fetchOpcode_byte (s : State) : s.fetchOpcode.1 = s.portAnswer s.pc := rfl
@[simp] theorem materialize_byte (s : State) : s.materialize.1 = s.portAnswer s.absAddr := rfl
@[simp] theorem resolved_signal (s : State) (addr : Addr) (sig : Bool) : (s.resolved addr sig).1 = sig := rfl

end Sys2Proof.Machine
end

