-- ==== Sys2Proof/Laws/Flags.lean ====
section
/-! SUPPORT. Laws/Flags.lean: one bit of P written and read, P by its flags, and the flags after ADC and SBC. -/

namespace Sys2Proof.Machine

theorem flagPos_lt (f : Flag) : flagPos f < 8 := by cases f <;> decide

theorem flagPos_inj {f g : Flag} : flagPos f = flagPos g ↔ f = g := by cases f <;> cases g <;> decide

/-- A byte after one bit of it is written. -/
@[simp] theorem getLsbD_setBit (p : Byte) (i j : Nat) (b : Bool) (hi : i < 8) :
    (setBit p i b).getLsbD j = if j = i then b else p.getLsbD j := by
  unfold setBit
  by_cases hj : j < 8
  · cases b <;> by_cases h : j = i <;> simp [h, hj, hi]
  · have : j ≠ i := by omega
    rw [if_neg this]
    simp [BitVec.getLsbD_of_ge _ _ (by omega : 8 ≤ j)]

/-- Writing two different bits in either order is the same. -/
theorem setBit_comm (p : Byte) {i j : Nat} (hi : i < 8) (hj : j < 8) (h : i ≠ j) (b c : Bool) :
    setBit (setBit p i b) j c = setBit (setBit p j c) i b := by
  apply BitVec.eq_of_getLsbD_eq
  intro k _
  rw [getLsbD_setBit _ _ _ _ hj, getLsbD_setBit _ _ _ _ hi, getLsbD_setBit _ _ _ _ hi, getLsbD_setBit _ _ _ _ hj]
  by_cases hki : k = i <;> by_cases hkj : k = j <;> simp_all

/-- Only the last write of a bit counts. -/
theorem setBit_setBit (p : Byte) {i : Nat} (hi : i < 8) (b c : Bool) : setBit (setBit p i b) i c = setBit p i c := by
  apply BitVec.eq_of_getLsbD_eq
  intro k _
  simp only [getLsbD_setBit _ _ _ _ hi]
  split <;> rfl

/-- A flag of a state with one flag written. -/
@[simp] theorem flag_setFlag (s : State) (f g : Flag) (b : Bool) :
    (s.setFlag f b).flag g = if g = f then b else s.flag g := by
  simp only [State.flag, setFlag_p, getLsbD_setBit _ _ _ _ (flagPos_lt f), flagPos_inj]

/-- A flag is a bit of P alone. -/
theorem flag_congr {s t : State} (h : t.p = s.p) (f : Flag) : t.flag f = s.flag f := by simp [State.flag, h]

/-- The whole of P written is a change of P alone (R40, D20). -/
theorem setP_onlyP (s : State) (v : Byte) : s.setP v = { s with p := (s.setP v).p } := by simp [State.setP, State.setFlag]

@[simp] theorem setP_cycles (s : State) (v : Byte) : (s.setP v).cycles = s.cycles := by rw [setP_onlyP]
@[simp] theorem setP_refused (s : State) (v : Byte) : (s.setP v).refused = s.refused := by rw [setP_onlyP]

/-- Each flag of a state with the whole of P written is the written byte's bit. -/
@[simp] theorem flag_setP (s : State) (v : Byte) (f : Flag) : (s.setP v).flag f = v.getLsbD (flagPos f) := by
  cases f <;> simp [State.setP] <;> rfl

@[simp] theorem flag_forceU (s : State) (g : Flag) : s.forceU.flag g = if g = .U then true else s.flag g :=
  flag_setFlag s .U g true

/-- The flags after the adder's results are written: C, Z, V and N new, I, D, B and U kept (R185). -/
@[simp] theorem flag_writeSum (s : State) (r : Byte × Bool × Bool) (g : Flag) :
    (s.writeSum r).flag g =
      match g with
      | .C => r.2.1
      | .Z => decide (r.1 = 0#8)
      | .V => r.2.2
      | .N => r.1.getLsbD 7
      | .I => s.flag .I
      | .D => s.flag .D
      | .B => s.flag .B
      | .U => s.flag .U := by
  have h : (s.writeSum r).flag g =
      ((((s.setFlag .C r.2.1).setFlag .Z (decide (r.1 = 0#8))).setFlag .V r.2.2).setFlag .N (r.1.getLsbD 7)).flag g := rfl
  rw [h]
  cases g <;> simp

@[simp] theorem flag_beginEntry (s : State) (base : Cost) (g : Flag) :
    (s.beginEntry base).flag g = if g = .U then true else s.flag g :=
  flag_setFlag s .U g true

@[simp] theorem flag_endEntry (s : State) (sigA sigB : Bool) (g : Flag) :
    (s.endEntry sigA sigB).flag g = if g = .U then true else s.flag g :=
  flag_setFlag s .U g true

/-- The adder's result as a number (R180). -/
theorem add8_result (a b : Byte) (cin : Bool) : (add8 a b cin).1.toNat = (a.toNat + b.toNat + cin.toNat) % 256 := by
  simp [add8]

/-- The adder's carry out (R180). -/
theorem add8_carry (a b : Byte) (cin : Bool) : (add8 a b cin).2.1 = decide (255 < a.toNat + b.toNat + cin.toNat) := rfl

/-- The adder's overflow in terms of signs (R182): both inputs share a sign and the result's sign differs. -/
theorem add8_overflow (a b : Byte) (cin : Bool) :
    (add8 a b cin).2.2 = true ↔ a.msb = b.msb ∧ (add8 a b cin).1.msb ≠ a.msb := by
  show overflow a b (add8 a b cin).1 = true ↔ _
  generalize (add8 a b cin).1 = r
  simp only [overflow, BitVec.msb_eq_getLsbD_last, BitVec.getLsbD_and, BitVec.getLsbD_xor, BitVec.getLsbD_not]
  cases a.getLsbD 7 <;> cases b.getLsbD 7 <;> cases r.getLsbD 7 <;> simp

end Sys2Proof.Machine
end

