-- ==== Sys2Proof/Laws/Memory.lean ====
section
/-! SUPPORT. Laws/Memory.lean: reads after writes of declared RAM, the canonical form kept by every memory operation, and the RAM
law of the Memory Port. -/

namespace Sys2Proof.Machine

/-! ### Reads after writes -/

@[simp] theorem Memory.get_nil (k : Nat) : Memory.get [] k = none := rfl

theorem Memory.get_cons (c : Host.Cell) (m : Memory) (k : Nat) :
    Memory.get (c :: m) k = if c.1 = k then some c.2 else Memory.get m k := rfl

theorem Memory.get_put_same (m : Memory) (k : Nat) (b : Byte) : (Memory.put m k b).get k = some b := by
  induction m with
  | nil => simp [Memory.put, Memory.get_cons]
  | cons c m ih =>
    obtain ⟨j, v⟩ := c
    simp only [Memory.put]
    split
    · simp [Memory.get_cons]
    · split
      · simp_all [Memory.get_cons]
      · rw [Memory.get_cons, ih, if_neg (by simp only; omega)]

theorem Memory.get_put_other (m : Memory) {j k : Nat} (b : Byte) (h : j ≠ k) :
    (Memory.put m k b).get j = m.get j := by
  induction m with
  | nil => simp [Memory.put, Memory.get_cons, Ne.symm h]
  | cons c m ih =>
    obtain ⟨i, v⟩ := c
    simp only [Memory.put]
    split
    · simp [Memory.get_cons, Ne.symm h]
    · split
      · subst k; simp [Memory.get_cons, Ne.symm h]
      · simp [Memory.get_cons, ih]

theorem Memory.get_put (m : Memory) (j k : Nat) (b : Byte) :
    (Memory.put m k b).get j = if j = k then some b else m.get j := by
  split
  · subst j; exact Memory.get_put_same m k b
  · exact Memory.get_put_other m b ‹_›

theorem Memory.get_update (m : Memory) (j k : Nat) (b : Byte) :
    (Memory.update m k b).get j = if j = k then (m.get k).map fun _ => b else m.get j := by
  induction m with
  | nil => simp [Memory.update]
  | cons c m ih =>
    obtain ⟨i, v⟩ := c
    simp only [Memory.update, Memory.get_cons]
    split <;> rename_i hik
    · by_cases hjk : j = k <;> simp_all [Memory.get_cons, eq_comm]
    · by_cases hjk : j = k <;> simp_all [Memory.get_cons]

theorem Memory.update_none (m : Memory) (k : Nat) (b : Byte) (h : m.get k = none) : Memory.update m k b = m := by
  induction m with
  | nil => rfl
  | cons c m ih =>
    obtain ⟨i, v⟩ := c
    rw [Memory.get_cons] at h
    split at h
    · simp at h
    · simp_all [Memory.update]

/-! ### The canonical form -/

/-- The head of a canonical memory is an address of the space. -/
theorem Memory.wf_head {c : Host.Cell} {m : Memory} (h : Memory.wf (c :: m) = true) : c.1 < 65536 := by
  induction m generalizing c with
  | nil => simpa [Memory.wf] using h
  | cons d m ih =>
    simp only [Memory.wf, Bool.and_eq_true, decide_eq_true_eq] at h
    exact lt_trans h.1 (ih h.2)

/-- What the canonical form of a non-empty memory says: its head is the least address, and the rest is canonical. -/
theorem Memory.wf_cons (c : Host.Cell) (m : Memory) :
    Memory.wf (c :: m) = true ↔ c.1 < 65536 ∧ (∀ d ∈ m.head?, c.1 < d.1) ∧ Memory.wf m = true := by
  cases m with
  | nil => simp [Memory.wf]
  | cons d m =>
    simp only [Memory.wf, List.head?_cons, Option.mem_def, Option.some.injEq, forall_eq', Bool.and_eq_true,
      decide_eq_true_eq]
    constructor
    · rintro ⟨h1, h2⟩
      exact ⟨lt_trans h1 (Memory.wf_head h2), h1, h2⟩
    · rintro ⟨-, h1, h2⟩
      exact ⟨h1, h2⟩

theorem Memory.wf_tail {c : Host.Cell} {m : Memory} (h : Memory.wf (c :: m) = true) : m.wf = true :=
  ((Memory.wf_cons c m).1 h).2.2

/-- Every address of a canonical memory is at least its head's, and below 65536. -/
theorem Memory.wf_bounds {m : Memory} (h : m.wf = true) :
    ∀ c ∈ m, c.1 < 65536 ∧ ∀ d ∈ m.head?, d.1 ≤ c.1 := by
  induction m with
  | nil => simp
  | cons e m ih =>
    obtain ⟨h1, h2, h3⟩ := (Memory.wf_cons e m).1 h
    intro c hc
    rcases List.mem_cons.1 hc with rfl | hc
    · exact ⟨h1, by simp⟩
    · obtain ⟨hb, hd⟩ := ih h3 c hc
      refine ⟨hb, ?_⟩
      simp only [List.head?_cons, Option.mem_def, Option.some.injEq, forall_eq']
      cases m with
      | nil => simp at hc
      | cons f m =>
        have a := h2 f (by simp)
        have b := hd f (by simp)
        omega

theorem Memory.get_some_mem {m : Memory} {k : Nat} {b : Byte} (h : m.get k = some b) : (k, b) ∈ m := by
  induction m with
  | nil => simp at h
  | cons c m ih =>
    rw [Memory.get_cons] at h
    split at h
    · obtain ⟨i, v⟩ := c; simp_all
    · exact List.mem_cons_of_mem _ (ih h)

theorem Memory.get_below_head {c : Host.Cell} {m : Memory} (h : Memory.wf (c :: m) = true) {k : Nat} (hk : k < c.1) :
    Memory.get (c :: m) k = none := by
  by_contra hne
  obtain ⟨b, hb⟩ := Option.ne_none_iff_exists'.1 hne
  have := (Memory.wf_bounds h _ (Memory.get_some_mem hb)).2 c (by simp)
  simp at this
  omega

/-- The head of a memory after `put` is the old head or the address put. -/
theorem Memory.head_put (m : Memory) (k : Nat) (b : Byte) :
    ∀ d ∈ (Memory.put m k b).head?, d.1 = k ∨ ∃ c ∈ m.head?, d.1 = c.1 := by
  cases m with
  | nil => simp [Memory.put]
  | cons c m =>
    obtain ⟨i, v⟩ := c
    simp only [Memory.put]
    split
    · simp
    · split <;> simp

/-- `put` keeps the canonical form, at an address of the space. -/
theorem Memory.wf_put {m : Memory} (h : m.wf = true) {k : Nat} (hk : k < 65536) (b : Byte) :
    (Memory.put m k b).wf = true := by
  induction m with
  | nil => simpa [Memory.put, Memory.wf] using hk
  | cons c m ih =>
    obtain ⟨i, v⟩ := c
    obtain ⟨h1, h2, h3⟩ := (Memory.wf_cons _ _).1 h
    simp only [Memory.put]
    split
    · rw [Memory.wf_cons]; exact ⟨hk, by simpa, h⟩
    · split
      · rw [Memory.wf_cons]; exact ⟨by omega, h2, h3⟩
      · rw [Memory.wf_cons]
        refine ⟨h1, fun d hd => ?_, ih h3⟩
        rcases Memory.head_put m k b d hd with hd | ⟨e, he, hd⟩
        · simp only; omega
        · rw [hd]; exact h2 e he

theorem Memory.head_update (m : Memory) (k : Nat) (b : Byte) :
    (Memory.update m k b).head?.map Prod.fst = m.head?.map Prod.fst := by
  cases m with
  | nil => rfl
  | cons c m =>
    obtain ⟨i, v⟩ := c
    simp only [Memory.update]
    split <;> rfl

/-- `update` keeps the canonical form. -/
theorem Memory.wf_update {m : Memory} (h : m.wf = true) (k : Nat) (b : Byte) : (Memory.update m k b).wf = true := by
  induction m with
  | nil => rfl
  | cons c m ih =>
    obtain ⟨i, v⟩ := c
    obtain ⟨h1, h2, h3⟩ := (Memory.wf_cons _ _).1 h
    simp only [Memory.update]
    split
    · rw [Memory.wf_cons]; exact ⟨h1, h2, h3⟩
    · rw [Memory.wf_cons]
      refine ⟨h1, fun d hd => ?_, ih h3⟩
      have := Memory.head_update m k b
      rw [Option.mem_def.1 hd] at this
      obtain ⟨e, he, hed⟩ := Option.map_eq_some_iff.1 this.symm
      rw [← hed]; exact h2 e he

theorem place_wf {s : State} (h : s.mem.wf = true) (addr : Addr) (b : Byte) : (s.place addr b).mem.wf = true :=
  Memory.wf_put h addr.isLt b

theorem memWrite_wf {s : State} (h : s.mem.wf = true) (addr : Addr) (b : Byte) : (s.memWrite addr b).mem.wf = true :=
  Memory.wf_update h _ b

theorem placeBytes_wf {s : State} (h : s.mem.wf = true) (addr : Addr) (bytes : List Byte) :
    (s.placeBytes addr bytes).mem.wf = true := by
  induction bytes generalizing s addr with
  | nil => exact h
  | cons b bytes ih => exact ih (place_wf h addr b) (addr + 1)

theorem reset_mem_wf : State.reset.mem.wf = true := rfl

/-! ### The Memory Port -/

/-- The port's answer obeys the RAM law (R52). -/
theorem portAnswer_ramLaw (s : State) (addr : Addr) : RamLaw s addr (s.portAnswer addr) := by
  intro w hw
  simp [State.portAnswer, hw]

theorem portAnswer_of_ram {s : State} {addr : Addr} {b : Byte} (h : s.mem.get addr.toNat = some b) :
    s.portAnswer addr = b := by
  simp [State.portAnswer, h]

/-- The RAM law depends on declared RAM alone. -/
theorem ramLaw_congr {s t : State} (h : t.mem = s.mem) {addr : Addr} {v : Byte} : RamLaw t addr v ↔ RamLaw s addr v := by
  simp [RamLaw, h]

end Sys2Proof.Machine
end

