-- ==== Sys2Proof/Laws/Operands.lean ====
section
/-! SUPPORT. Laws/Operands.lean: the address helpers as numbers, what a pointer pair and a resolver leave unchanged, what each
resolver's output is, and the four cases of operand materialization. -/

namespace Sys2Proof.Machine

/-! ### The address helpers as numbers -/

@[simp] theorem zext16_toNat (b : Byte) : (zext16 b).toNat = b.toNat := by
  have := b.isLt
  simp [zext16]; omega

theorem mkAddr_toNat (lo hi : Byte) : (mkAddr lo hi).toNat = lo.toNat + 256 * hi.toNat := by
  have := lo.isLt
  rw [mkAddr, BitVec.toNat_append, Nat.shiftLeft_eq, Nat.mul_comm, ← Nat.two_pow_add_eq_or_of_lt this]
  omega

theorem pageOf_toNat (addr : Addr) : (pageOf addr).toNat = addr.toNat / 256 * 256 := by
  have h : ∀ n < 65536, n &&& 0xFF00 = n / 256 * 256 := by
    intro n hn
    apply Nat.eq_of_testBit_eq
    intro i
    rw [Nat.testBit_and, show (0xFF00 : Nat) = (2 ^ 8 - 1) * 2 ^ 8 from rfl, show n / 256 * 256 = n / 2 ^ 8 * 2 ^ 8 from rfl,
      Nat.testBit_mul_two_pow, Nat.testBit_mul_two_pow, Nat.testBit_two_pow_sub_one, Nat.testBit_div_two_pow]
    by_cases h8 : 8 ≤ i
    · by_cases h16 : i < 16
      · simp [h8, show i - 8 < 8 by omega]
      · have : n.testBit i = false :=
          Nat.testBit_lt_two_pow (lt_of_lt_of_le hn (Nat.pow_le_pow_right (by omega : 2 > 0) (by omega : 16 ≤ i)))
        simp [h8, this]
    · simp [h8]
  simpa [pageOf, BitVec.toNat_and] using h addr.toNat addr.isLt

/-- The page-cross test compares the high bytes (R123). -/
theorem pageCross_eq (base addr : Addr) : pageCross base addr = decide (addr.toNat / 256 ≠ base.toNat / 256) := by
  have h : pageOf addr = pageOf base ↔ addr.toNat / 256 = base.toNat / 256 := by
    rw [← BitVec.toNat_inj, pageOf_toNat, pageOf_toNat]
    omega
  unfold pageCross
  by_cases hp : addr.toNat / 256 = base.toNat / 256
  · simp [h.2 hp, hp]
  · have := mt h.1 hp
    simp [hp, this]

/-! ### A pointer pair -/

/-- The two reads of a pointer pair under LoFirst (R124). -/
theorem read16pair_loFirst {s : State} (h : s.config.ptrReadOrder = .loFirst) (aLo aHi : Addr) :
    s.read16pair aLo aHi =
      ((s.portAnswer aLo, (s.memRead aLo).2.portAnswer aHi), ((s.memRead aLo).2.memRead aHi).2) := by
  simp [State.read16pair, h]

/-- The two reads of a pointer pair under HiFirst (R124). -/
theorem read16pair_hiFirst {s : State} (h : s.config.ptrReadOrder = .hiFirst) (aLo aHi : Addr) :
    s.read16pair aLo aHi =
      (((s.memRead aHi).2.portAnswer aLo, s.portAnswer aHi), ((s.memRead aHi).2.memRead aLo).2) := by
  simp [State.read16pair, h]

/-- A pointer pair changes the history and the read count alone. -/
theorem read16pair_state (s : State) (aLo aHi : Addr) :
    (s.read16pair aLo aHi).2 =
      { s with history := (s.read16pair aLo aHi).2.history, reads := (s.read16pair aLo aHi).2.reads } := by
  cases h : s.config.ptrReadOrder
  · rw [read16pair_loFirst h]; rfl
  · rw [read16pair_hiFirst h]; rfl

/-- A pointer pair makes two reads. -/
@[simp] theorem read16pair_reads (s : State) (aLo aHi : Addr) : (s.read16pair aLo aHi).2.reads = s.reads + 2 := by
  cases h : s.config.ptrReadOrder
  · rw [read16pair_loFirst h]; rfl
  · rw [read16pair_hiFirst h]; rfl

/-- Both bytes of a pointer pair obey the RAM law. -/
theorem read16pair_ramLaw (s : State) (aLo aHi : Addr) :
    RamLaw s aLo (s.read16pair aLo aHi).1.1 ∧ RamLaw s aHi (s.read16pair aLo aHi).1.2 := by
  cases h : s.config.ptrReadOrder
  · rw [read16pair_loFirst h]
    exact ⟨portAnswer_ramLaw s aLo, (ramLaw_congr (memRead_mem s aLo)).1 (portAnswer_ramLaw (s.memRead aLo).2 aHi)⟩
  · rw [read16pair_hiFirst h]
    exact ⟨(ramLaw_congr (memRead_mem s aHi)).1 (portAnswer_ramLaw (s.memRead aHi).2 aLo), portAnswer_ramLaw s aHi⟩

@[simp] theorem read16pair_a (s : State) (aLo aHi : Addr) : (s.read16pair aLo aHi).2.a = s.a := by
  rw [read16pair_state]

@[simp] theorem read16pair_x (s : State) (aLo aHi : Addr) : (s.read16pair aLo aHi).2.x = s.x := by
  rw [read16pair_state]

@[simp] theorem read16pair_y (s : State) (aLo aHi : Addr) : (s.read16pair aLo aHi).2.y = s.y := by
  rw [read16pair_state]

@[simp] theorem read16pair_sp (s : State) (aLo aHi : Addr) : (s.read16pair aLo aHi).2.sp = s.sp := by
  rw [read16pair_state]

@[simp] theorem read16pair_pc (s : State) (aLo aHi : Addr) : (s.read16pair aLo aHi).2.pc = s.pc := by
  rw [read16pair_state]

@[simp] theorem read16pair_p (s : State) (aLo aHi : Addr) : (s.read16pair aLo aHi).2.p = s.p := by
  rw [read16pair_state]

@[simp] theorem read16pair_opcode (s : State) (aLo aHi : Addr) : (s.read16pair aLo aHi).2.opcode = s.opcode := by
  rw [read16pair_state]

@[simp] theorem read16pair_absAddr (s : State) (aLo aHi : Addr) : (s.read16pair aLo aHi).2.absAddr = s.absAddr := by
  rw [read16pair_state]

@[simp] theorem read16pair_relAddr (s : State) (aLo aHi : Addr) : (s.read16pair aLo aHi).2.relAddr = s.relAddr := by
  rw [read16pair_state]

@[simp] theorem read16pair_fetched (s : State) (aLo aHi : Addr) : (s.read16pair aLo aHi).2.fetched = s.fetched := by
  rw [read16pair_state]

@[simp] theorem read16pair_fetchValid (s : State) (aLo aHi : Addr) : (s.read16pair aLo aHi).2.fetchValid = s.fetchValid := by
  rw [read16pair_state]

@[simp] theorem read16pair_cycles (s : State) (aLo aHi : Addr) : (s.read16pair aLo aHi).2.cycles = s.cycles := by
  rw [read16pair_state]

@[simp] theorem read16pair_refused (s : State) (aLo aHi : Addr) : (s.read16pair aLo aHi).2.refused = s.refused := by
  rw [read16pair_state]

@[simp] theorem read16pair_mem (s : State) (aLo aHi : Addr) : (s.read16pair aLo aHi).2.mem = s.mem := by
  rw [read16pair_state]

@[simp] theorem read16pair_stale (s : State) (aLo aHi : Addr) : (s.read16pair aLo aHi).2.stale = s.stale := by
  rw [read16pair_state]

@[simp] theorem read16pair_config (s : State) (aLo aHi : Addr) : (s.read16pair aLo aHi).2.config = s.config := by
  rw [read16pair_state]

/-! ### What a resolver leaves unchanged (R110) -/

@[simp] theorem resolveOperand_a (o : Operand) (s : State) : (resolveOperand o s).2.a = s.a := by
  cases o <;> simp [resolveOperand, resolveImp, resolveImm, resolveZp0, resolveZpIndexed, resolveRel, resolveAbs, resolveIndexed,
    resolveInd, resolveIzx, resolveIzy, State.zeroPagePair]

@[simp] theorem resolveOperand_x (o : Operand) (s : State) : (resolveOperand o s).2.x = s.x := by
  cases o <;> simp [resolveOperand, resolveImp, resolveImm, resolveZp0, resolveZpIndexed, resolveRel, resolveAbs, resolveIndexed,
    resolveInd, resolveIzx, resolveIzy, State.zeroPagePair]

@[simp] theorem resolveOperand_y (o : Operand) (s : State) : (resolveOperand o s).2.y = s.y := by
  cases o <;> simp [resolveOperand, resolveImp, resolveImm, resolveZp0, resolveZpIndexed, resolveRel, resolveAbs, resolveIndexed,
    resolveInd, resolveIzx, resolveIzy, State.zeroPagePair]

@[simp] theorem resolveOperand_sp (o : Operand) (s : State) : (resolveOperand o s).2.sp = s.sp := by
  cases o <;> simp [resolveOperand, resolveImp, resolveImm, resolveZp0, resolveZpIndexed, resolveRel, resolveAbs, resolveIndexed,
    resolveInd, resolveIzx, resolveIzy, State.zeroPagePair]

@[simp] theorem resolveOperand_pc (o : Operand) (s : State) : (resolveOperand o s).2.pc = s.pc := by
  cases o <;> simp [resolveOperand, resolveImp, resolveImm, resolveZp0, resolveZpIndexed, resolveRel, resolveAbs, resolveIndexed,
    resolveInd, resolveIzx, resolveIzy, State.zeroPagePair]

@[simp] theorem resolveOperand_p (o : Operand) (s : State) : (resolveOperand o s).2.p = s.p := by
  cases o <;> simp [resolveOperand, resolveImp, resolveImm, resolveZp0, resolveZpIndexed, resolveRel, resolveAbs, resolveIndexed,
    resolveInd, resolveIzx, resolveIzy, State.zeroPagePair]

@[simp] theorem resolveOperand_opcode (o : Operand) (s : State) : (resolveOperand o s).2.opcode = s.opcode := by
  cases o <;> simp [resolveOperand, resolveImp, resolveImm, resolveZp0, resolveZpIndexed, resolveRel, resolveAbs, resolveIndexed,
    resolveInd, resolveIzx, resolveIzy, State.zeroPagePair]

@[simp] theorem resolveOperand_cycles (o : Operand) (s : State) : (resolveOperand o s).2.cycles = s.cycles := by
  cases o <;> simp [resolveOperand, resolveImp, resolveImm, resolveZp0, resolveZpIndexed, resolveRel, resolveAbs, resolveIndexed,
    resolveInd, resolveIzx, resolveIzy, State.zeroPagePair]

@[simp] theorem resolveOperand_refused (o : Operand) (s : State) : (resolveOperand o s).2.refused = s.refused := by
  cases o <;> simp [resolveOperand, resolveImp, resolveImm, resolveZp0, resolveZpIndexed, resolveRel, resolveAbs, resolveIndexed,
    resolveInd, resolveIzx, resolveIzy, State.zeroPagePair]

@[simp] theorem resolveOperand_mem (o : Operand) (s : State) : (resolveOperand o s).2.mem = s.mem := by
  cases o <;> simp [resolveOperand, resolveImp, resolveImm, resolveZp0, resolveZpIndexed, resolveRel, resolveAbs, resolveIndexed,
    resolveInd, resolveIzx, resolveIzy, State.zeroPagePair]

@[simp] theorem resolveOperand_stale (o : Operand) (s : State) : (resolveOperand o s).2.stale = s.stale := by
  cases o <;> simp [resolveOperand, resolveImp, resolveImm, resolveZp0, resolveZpIndexed, resolveRel, resolveAbs, resolveIndexed,
    resolveInd, resolveIzx, resolveIzy, State.zeroPagePair]

@[simp] theorem resolveOperand_config (o : Operand) (s : State) : (resolveOperand o s).2.config = s.config := by
  cases o <;> simp [resolveOperand, resolveImp, resolveImm, resolveZp0, resolveZpIndexed, resolveRel, resolveAbs, resolveIndexed,
    resolveInd, resolveIzx, resolveIzy, State.zeroPagePair]

/-- A resolver other than Immediate leaves the fetch cache as it was. -/
theorem resolveOperand_fetchValid (o : Operand) (s : State) (h : operandMode o ≠ .imm) :
    (resolveOperand o s).2.fetchValid = s.fetchValid := by
  cases o <;> simp_all [operandMode, resolveOperand, resolveImp, resolveZp0, resolveZpIndexed, resolveRel, resolveAbs,
    resolveIndexed, resolveInd, resolveIzx, resolveIzy, State.zeroPagePair]

/-! ### Operand materialization (R131) -/

theorem fetchOperand_imm (s : State) : fetchOperand .imm s = .ok (s.fetched, s) := rfl

theorem fetchOperand_cached {s : State} (h : s.fetchValid = true) (mode : Mode) : fetchOperand mode s = .ok (s.fetched, s) := by
  simp [fetchOperand, h]

theorem fetchOperand_rel {s : State} (h : s.fetchValid = false) : fetchOperand .rel s = .error .unresolvedAbsAddr := by
  simp [fetchOperand, h]

theorem fetchOperand_read {s : State} {mode : Mode} (h : s.fetchValid = false) (hi : mode ≠ .imm) (hr : mode ≠ .rel) :
    fetchOperand mode s = .ok s.materialize := by
  simp [fetchOperand, h, hi, hr]

/-- Everything materialization can answer: the cached byte with no read, one read cached, or the fault. -/
theorem fetchOperand_cases (mode : Mode) (s : State) :
    fetchOperand mode s = .ok (s.fetched, s) ∨ fetchOperand mode s = .ok s.materialize ∨
      (mode = .rel ∧ fetchOperand mode s = .error .unresolvedAbsAddr) := by
  by_cases hi : mode = .imm
  · subst hi; exact .inl rfl
  · cases hv : s.fetchValid
    · by_cases hr : mode = .rel
      · subst hr; exact .inr (.inr ⟨rfl, fetchOperand_rel hv⟩)
      · exact .inr (.inl (fetchOperand_read hv hi hr))
    · exact .inl (fetchOperand_cached hv mode)

end Sys2Proof.Machine
end

