-- ==== Sys2Proof/Laws/Engine.lean ====
section
/-! SUPPORT. Laws/Engine.lean: what the operations of the table and the meanings answer, said once: `exec_cases` is the one
inversion of `exec`. -/

namespace Sys2Proof.Machine

/-- The operand byte an operation works on after its resolver, with the state after materialization. -/
def operandByte (o : Operand) (s : State) : Byte × State :=
  if operandMode o = .imm then (s.fetched, s) else s.materialize

/-- ADC from its operand bytes on completes, in every mode but Relative, from a state whose fetch cache is empty. -/
theorem runEntry_adc {o : Operand} {s : State} (base : Cost) (hv : s.fetchValid = false) (hr : operandMode o ≠ .rel) :
    runEntry .adc o base s = .next (((operandByte o (resolveOperand o (s.beginEntry base)).2).2.adcWrite
      (operandByte o (resolveOperand o (s.beginEntry base)).2).1).endEntry (resolveOperand o (s.beginEntry base)).1 true) := by
  unfold runEntry finishEntry operate opAdc operandByte
  by_cases hi : operandMode o = .imm
  · simp [hi, fetchOperand_imm]
  · rw [fetchOperand_read (by rw [resolveOperand_fetchValid _ _ hi]; simpa using hv) hi hr]
    simp [hi]

/-- SBC from its operand bytes on completes, in every mode but Relative, from a state whose fetch cache is empty. -/
theorem runEntry_sbc {o : Operand} {s : State} (base : Cost) (hv : s.fetchValid = false) (hr : operandMode o ≠ .rel) :
    runEntry .sbc o base s = .next (((operandByte o (resolveOperand o (s.beginEntry base)).2).2.sbcWrite
      (operandByte o (resolveOperand o (s.beginEntry base)).2).1).endEntry (resolveOperand o (s.beginEntry base)).1 true) := by
  unfold runEntry finishEntry operate opSbc operandByte
  by_cases hi : operandMode o = .imm
  · simp [hi, fetchOperand_imm]
  · rw [fetchOperand_read (by rw [resolveOperand_fetchValid _ _ hi]; simpa using hv) hi hr]
    simp [hi]

/-- The immediate forms complete whatever the fetch cache holds. -/
theorem runEntry_adc_imm (imm8 : Byte) (base : Cost) (s : State) :
    runEntry .adc (.imm imm8) base s =
      .next (((resolveImm imm8 (s.beginEntry base)).2.adcWrite imm8).endEntry false true) := rfl

theorem runEntry_sbc_imm (imm8 : Byte) (base : Cost) (s : State) :
    runEntry .sbc (.imm imm8) base s =
      .next (((resolveImm imm8 (s.beginEntry base)).2.sbcWrite imm8).endEntry false true) := rfl

/-- The fill entry completes (R220). -/
theorem runEntry_fill (base : Cost) (s : State) :
    runEntry .fill .imp base s = .next ((resolveImp (s.beginEntry base)).2.endEntry false false) := rfl

/-- An entry in any mode but Relative answers a next state, whatever the state. -/
theorem runEntry_next (op : Operation) {o : Operand} (base : Cost) (s : State) (hr : operandMode o ≠ .rel) :
    ∃ t, runEntry op o base s = .next t := by
  unfold runEntry finishEntry operate opAdc opSbc opFill
  rcases fetchOperand_cases (operandMode o) (resolveOperand o (s.beginEntry base)).2 with h | h | ⟨h, -⟩
  · cases op <;> simp [h]
  · cases op <;> simp [h]
  · exact absurd h hr

/-- What an instruction is, whatever the state: either its table entry run on its operand, in a mode other than Relative, at the
cost its configuration gives; or refused because its entry is unwired. -/
theorem exec_form (i : Instr) :
    (∃ mnemonic op o, ∃ cost : Config → Cost, operandMode o ≠ .rel ∧
      (∀ cfg, table cfg (opcodeOf i) = .run mnemonic op (operandMode o) (cost cfg)) ∧
      ∀ s, exec i s = runEntry op o (cost s.config) s) ∨
    (∃ mnemonic, (∀ cfg, table cfg (opcodeOf i) = .unwired mnemonic) ∧ ∀ s, exec i s = refuseUnwired (opcodeOf i) s) := by
  cases i
  case brk => exact .inr ⟨"BRK", fun cfg => (rfl : table cfg 0x00#8 = .unwired "BRK"), fun _ => rfl⟩
  case oraIzx => exact .inr ⟨"ORA", fun cfg => (rfl : table cfg 0x01#8 = .unwired "ORA"), fun _ => rfl⟩
  case fill02 => exact .inl ⟨"???", .fill, .imp, fun c => fillCost c 0x02#8, by simp [operandMode],
    fun cfg => (rfl : table cfg 0x02#8 = fillEntry cfg 0x02#8), fun _ => rfl⟩
  case fill03 => exact .inl ⟨"???", .fill, .imp, fun c => fillCost c 0x03#8, by simp [operandMode],
    fun cfg => (rfl : table cfg 0x03#8 = fillEntry cfg 0x03#8), fun _ => rfl⟩
  case fill04 => exact .inl ⟨"???", .fill, .imp, fun c => fillCost c 0x04#8, by simp [operandMode],
    fun cfg => (rfl : table cfg 0x04#8 = fillEntry cfg 0x04#8), fun _ => rfl⟩
  case oraZp0 => exact .inr ⟨"ORA", fun cfg => (rfl : table cfg 0x05#8 = .unwired "ORA"), fun _ => rfl⟩
  case aslZp0 => exact .inr ⟨"ASL", fun cfg => (rfl : table cfg 0x06#8 = .unwired "ASL"), fun _ => rfl⟩
  case fill07 => exact .inl ⟨"???", .fill, .imp, fun c => fillCost c 0x07#8, by simp [operandMode],
    fun cfg => (rfl : table cfg 0x07#8 = fillEntry cfg 0x07#8), fun _ => rfl⟩
  case php => exact .inr ⟨"PHP", fun cfg => (rfl : table cfg 0x08#8 = .unwired "PHP"), fun _ => rfl⟩
  case oraImm => exact .inr ⟨"ORA", fun cfg => (rfl : table cfg 0x09#8 = .unwired "ORA"), fun _ => rfl⟩
  case aslAcc => exact .inr ⟨"ASL", fun cfg => (rfl : table cfg 0x0A#8 = .unwired "ASL"), fun _ => rfl⟩
  case fill0B => exact .inl ⟨"???", .fill, .imp, fun c => fillCost c 0x0B#8, by simp [operandMode],
    fun cfg => (rfl : table cfg 0x0B#8 = fillEntry cfg 0x0B#8), fun _ => rfl⟩
  case fill0C => exact .inl ⟨"???", .fill, .imp, fun c => fillCost c 0x0C#8, by simp [operandMode],
    fun cfg => (rfl : table cfg 0x0C#8 = fillEntry cfg 0x0C#8), fun _ => rfl⟩
  case oraAbs => exact .inr ⟨"ORA", fun cfg => (rfl : table cfg 0x0D#8 = .unwired "ORA"), fun _ => rfl⟩
  case aslAbs => exact .inr ⟨"ASL", fun cfg => (rfl : table cfg 0x0E#8 = .unwired "ASL"), fun _ => rfl⟩
  case fill0F => exact .inl ⟨"???", .fill, .imp, fun c => fillCost c 0x0F#8, by simp [operandMode],
    fun cfg => (rfl : table cfg 0x0F#8 = fillEntry cfg 0x0F#8), fun _ => rfl⟩
  case bplRel => exact .inr ⟨"BPL", fun cfg => (rfl : table cfg 0x10#8 = .unwired "BPL"), fun _ => rfl⟩
  case oraIzy => exact .inr ⟨"ORA", fun cfg => (rfl : table cfg 0x11#8 = .unwired "ORA"), fun _ => rfl⟩
  case fill12 => exact .inl ⟨"???", .fill, .imp, fun c => fillCost c 0x12#8, by simp [operandMode],
    fun cfg => (rfl : table cfg 0x12#8 = fillEntry cfg 0x12#8), fun _ => rfl⟩
  case fill13 => exact .inl ⟨"???", .fill, .imp, fun c => fillCost c 0x13#8, by simp [operandMode],
    fun cfg => (rfl : table cfg 0x13#8 = fillEntry cfg 0x13#8), fun _ => rfl⟩
  case fill14 => exact .inl ⟨"???", .fill, .imp, fun c => fillCost c 0x14#8, by simp [operandMode],
    fun cfg => (rfl : table cfg 0x14#8 = fillEntry cfg 0x14#8), fun _ => rfl⟩
  case oraZpx => exact .inr ⟨"ORA", fun cfg => (rfl : table cfg 0x15#8 = .unwired "ORA"), fun _ => rfl⟩
  case aslZpx => exact .inr ⟨"ASL", fun cfg => (rfl : table cfg 0x16#8 = .unwired "ASL"), fun _ => rfl⟩
  case fill17 => exact .inl ⟨"???", .fill, .imp, fun c => fillCost c 0x17#8, by simp [operandMode],
    fun cfg => (rfl : table cfg 0x17#8 = fillEntry cfg 0x17#8), fun _ => rfl⟩
  case clc => exact .inr ⟨"CLC", fun cfg => (rfl : table cfg 0x18#8 = .unwired "CLC"), fun _ => rfl⟩
  case oraAby => exact .inr ⟨"ORA", fun cfg => (rfl : table cfg 0x19#8 = .unwired "ORA"), fun _ => rfl⟩
  case fill1A => exact .inl ⟨"???", .fill, .imp, fun c => fillCost c 0x1A#8, by simp [operandMode],
    fun cfg => (rfl : table cfg 0x1A#8 = fillEntry cfg 0x1A#8), fun _ => rfl⟩
  case fill1B => exact .inl ⟨"???", .fill, .imp, fun c => fillCost c 0x1B#8, by simp [operandMode],
    fun cfg => (rfl : table cfg 0x1B#8 = fillEntry cfg 0x1B#8), fun _ => rfl⟩
  case fill1C => exact .inl ⟨"???", .fill, .imp, fun c => fillCost c 0x1C#8, by simp [operandMode],
    fun cfg => (rfl : table cfg 0x1C#8 = fillEntry cfg 0x1C#8), fun _ => rfl⟩
  case oraAbx => exact .inr ⟨"ORA", fun cfg => (rfl : table cfg 0x1D#8 = .unwired "ORA"), fun _ => rfl⟩
  case aslAbx => exact .inr ⟨"ASL", fun cfg => (rfl : table cfg 0x1E#8 = .unwired "ASL"), fun _ => rfl⟩
  case fill1F => exact .inl ⟨"???", .fill, .imp, fun c => fillCost c 0x1F#8, by simp [operandMode],
    fun cfg => (rfl : table cfg 0x1F#8 = fillEntry cfg 0x1F#8), fun _ => rfl⟩
  case jsrAbs => exact .inr ⟨"JSR", fun cfg => (rfl : table cfg 0x20#8 = .unwired "JSR"), fun _ => rfl⟩
  case andIzx => exact .inr ⟨"AND", fun cfg => (rfl : table cfg 0x21#8 = .unwired "AND"), fun _ => rfl⟩
  case fill22 => exact .inl ⟨"???", .fill, .imp, fun c => fillCost c 0x22#8, by simp [operandMode],
    fun cfg => (rfl : table cfg 0x22#8 = fillEntry cfg 0x22#8), fun _ => rfl⟩
  case fill23 => exact .inl ⟨"???", .fill, .imp, fun c => fillCost c 0x23#8, by simp [operandMode],
    fun cfg => (rfl : table cfg 0x23#8 = fillEntry cfg 0x23#8), fun _ => rfl⟩
  case bitZp0 => exact .inr ⟨"BIT", fun cfg => (rfl : table cfg 0x24#8 = .unwired "BIT"), fun _ => rfl⟩
  case andZp0 => exact .inr ⟨"AND", fun cfg => (rfl : table cfg 0x25#8 = .unwired "AND"), fun _ => rfl⟩
  case rolZp0 => exact .inr ⟨"ROL", fun cfg => (rfl : table cfg 0x26#8 = .unwired "ROL"), fun _ => rfl⟩
  case fill27 => exact .inl ⟨"???", .fill, .imp, fun c => fillCost c 0x27#8, by simp [operandMode],
    fun cfg => (rfl : table cfg 0x27#8 = fillEntry cfg 0x27#8), fun _ => rfl⟩
  case plp => exact .inr ⟨"PLP", fun cfg => (rfl : table cfg 0x28#8 = .unwired "PLP"), fun _ => rfl⟩
  case andImm => exact .inr ⟨"AND", fun cfg => (rfl : table cfg 0x29#8 = .unwired "AND"), fun _ => rfl⟩
  case rolAcc => exact .inr ⟨"ROL", fun cfg => (rfl : table cfg 0x2A#8 = .unwired "ROL"), fun _ => rfl⟩
  case fill2B => exact .inl ⟨"???", .fill, .imp, fun c => fillCost c 0x2B#8, by simp [operandMode],
    fun cfg => (rfl : table cfg 0x2B#8 = fillEntry cfg 0x2B#8), fun _ => rfl⟩
  case bitAbs => exact .inr ⟨"BIT", fun cfg => (rfl : table cfg 0x2C#8 = .unwired "BIT"), fun _ => rfl⟩
  case andAbs => exact .inr ⟨"AND", fun cfg => (rfl : table cfg 0x2D#8 = .unwired "AND"), fun _ => rfl⟩
  case rolAbs => exact .inr ⟨"ROL", fun cfg => (rfl : table cfg 0x2E#8 = .unwired "ROL"), fun _ => rfl⟩
  case fill2F => exact .inl ⟨"???", .fill, .imp, fun c => fillCost c 0x2F#8, by simp [operandMode],
    fun cfg => (rfl : table cfg 0x2F#8 = fillEntry cfg 0x2F#8), fun _ => rfl⟩
  case bmiRel => exact .inr ⟨"BMI", fun cfg => (rfl : table cfg 0x30#8 = .unwired "BMI"), fun _ => rfl⟩
  case andIzy => exact .inr ⟨"AND", fun cfg => (rfl : table cfg 0x31#8 = .unwired "AND"), fun _ => rfl⟩
  case fill32 => exact .inl ⟨"???", .fill, .imp, fun c => fillCost c 0x32#8, by simp [operandMode],
    fun cfg => (rfl : table cfg 0x32#8 = fillEntry cfg 0x32#8), fun _ => rfl⟩
  case fill33 => exact .inl ⟨"???", .fill, .imp, fun c => fillCost c 0x33#8, by simp [operandMode],
    fun cfg => (rfl : table cfg 0x33#8 = fillEntry cfg 0x33#8), fun _ => rfl⟩
  case fill34 => exact .inl ⟨"???", .fill, .imp, fun c => fillCost c 0x34#8, by simp [operandMode],
    fun cfg => (rfl : table cfg 0x34#8 = fillEntry cfg 0x34#8), fun _ => rfl⟩
  case andZpx => exact .inr ⟨"AND", fun cfg => (rfl : table cfg 0x35#8 = .unwired "AND"), fun _ => rfl⟩
  case rolZpx => exact .inr ⟨"ROL", fun cfg => (rfl : table cfg 0x36#8 = .unwired "ROL"), fun _ => rfl⟩
  case fill37 => exact .inl ⟨"???", .fill, .imp, fun c => fillCost c 0x37#8, by simp [operandMode],
    fun cfg => (rfl : table cfg 0x37#8 = fillEntry cfg 0x37#8), fun _ => rfl⟩
  case sec => exact .inr ⟨"SEC", fun cfg => (rfl : table cfg 0x38#8 = .unwired "SEC"), fun _ => rfl⟩
  case andAby => exact .inr ⟨"AND", fun cfg => (rfl : table cfg 0x39#8 = .unwired "AND"), fun _ => rfl⟩
  case fill3A => exact .inl ⟨"???", .fill, .imp, fun c => fillCost c 0x3A#8, by simp [operandMode],
    fun cfg => (rfl : table cfg 0x3A#8 = fillEntry cfg 0x3A#8), fun _ => rfl⟩
  case fill3B => exact .inl ⟨"???", .fill, .imp, fun c => fillCost c 0x3B#8, by simp [operandMode],
    fun cfg => (rfl : table cfg 0x3B#8 = fillEntry cfg 0x3B#8), fun _ => rfl⟩
  case fill3C => exact .inl ⟨"???", .fill, .imp, fun c => fillCost c 0x3C#8, by simp [operandMode],
    fun cfg => (rfl : table cfg 0x3C#8 = fillEntry cfg 0x3C#8), fun _ => rfl⟩
  case andAbx => exact .inr ⟨"AND", fun cfg => (rfl : table cfg 0x3D#8 = .unwired "AND"), fun _ => rfl⟩
  case rolAbx => exact .inr ⟨"ROL", fun cfg => (rfl : table cfg 0x3E#8 = .unwired "ROL"), fun _ => rfl⟩
  case fill3F => exact .inl ⟨"???", .fill, .imp, fun c => fillCost c 0x3F#8, by simp [operandMode],
    fun cfg => (rfl : table cfg 0x3F#8 = fillEntry cfg 0x3F#8), fun _ => rfl⟩
  case rti => exact .inr ⟨"RTI", fun cfg => (rfl : table cfg 0x40#8 = .unwired "RTI"), fun _ => rfl⟩
  case eorIzx => exact .inr ⟨"EOR", fun cfg => (rfl : table cfg 0x41#8 = .unwired "EOR"), fun _ => rfl⟩
  case fill42 => exact .inl ⟨"???", .fill, .imp, fun c => fillCost c 0x42#8, by simp [operandMode],
    fun cfg => (rfl : table cfg 0x42#8 = fillEntry cfg 0x42#8), fun _ => rfl⟩
  case fill43 => exact .inl ⟨"???", .fill, .imp, fun c => fillCost c 0x43#8, by simp [operandMode],
    fun cfg => (rfl : table cfg 0x43#8 = fillEntry cfg 0x43#8), fun _ => rfl⟩
  case fill44 => exact .inl ⟨"???", .fill, .imp, fun c => fillCost c 0x44#8, by simp [operandMode],
    fun cfg => (rfl : table cfg 0x44#8 = fillEntry cfg 0x44#8), fun _ => rfl⟩
  case eorZp0 => exact .inr ⟨"EOR", fun cfg => (rfl : table cfg 0x45#8 = .unwired "EOR"), fun _ => rfl⟩
  case lsrZp0 => exact .inr ⟨"LSR", fun cfg => (rfl : table cfg 0x46#8 = .unwired "LSR"), fun _ => rfl⟩
  case fill47 => exact .inl ⟨"???", .fill, .imp, fun c => fillCost c 0x47#8, by simp [operandMode],
    fun cfg => (rfl : table cfg 0x47#8 = fillEntry cfg 0x47#8), fun _ => rfl⟩
  case pha => exact .inr ⟨"PHA", fun cfg => (rfl : table cfg 0x48#8 = .unwired "PHA"), fun _ => rfl⟩
  case eorImm => exact .inr ⟨"EOR", fun cfg => (rfl : table cfg 0x49#8 = .unwired "EOR"), fun _ => rfl⟩
  case lsrAcc => exact .inr ⟨"LSR", fun cfg => (rfl : table cfg 0x4A#8 = .unwired "LSR"), fun _ => rfl⟩
  case fill4B => exact .inl ⟨"???", .fill, .imp, fun c => fillCost c 0x4B#8, by simp [operandMode],
    fun cfg => (rfl : table cfg 0x4B#8 = fillEntry cfg 0x4B#8), fun _ => rfl⟩
  case jmpAbs => exact .inr ⟨"JMP", fun cfg => (rfl : table cfg 0x4C#8 = .unwired "JMP"), fun _ => rfl⟩
  case eorAbs => exact .inr ⟨"EOR", fun cfg => (rfl : table cfg 0x4D#8 = .unwired "EOR"), fun _ => rfl⟩
  case lsrAbs => exact .inr ⟨"LSR", fun cfg => (rfl : table cfg 0x4E#8 = .unwired "LSR"), fun _ => rfl⟩
  case fill4F => exact .inl ⟨"???", .fill, .imp, fun c => fillCost c 0x4F#8, by simp [operandMode],
    fun cfg => (rfl : table cfg 0x4F#8 = fillEntry cfg 0x4F#8), fun _ => rfl⟩
  case bvcRel => exact .inr ⟨"BVC", fun cfg => (rfl : table cfg 0x50#8 = .unwired "BVC"), fun _ => rfl⟩
  case eorIzy => exact .inr ⟨"EOR", fun cfg => (rfl : table cfg 0x51#8 = .unwired "EOR"), fun _ => rfl⟩
  case fill52 => exact .inl ⟨"???", .fill, .imp, fun c => fillCost c 0x52#8, by simp [operandMode],
    fun cfg => (rfl : table cfg 0x52#8 = fillEntry cfg 0x52#8), fun _ => rfl⟩
  case fill53 => exact .inl ⟨"???", .fill, .imp, fun c => fillCost c 0x53#8, by simp [operandMode],
    fun cfg => (rfl : table cfg 0x53#8 = fillEntry cfg 0x53#8), fun _ => rfl⟩
  case fill54 => exact .inl ⟨"???", .fill, .imp, fun c => fillCost c 0x54#8, by simp [operandMode],
    fun cfg => (rfl : table cfg 0x54#8 = fillEntry cfg 0x54#8), fun _ => rfl⟩
  case eorZpx => exact .inr ⟨"EOR", fun cfg => (rfl : table cfg 0x55#8 = .unwired "EOR"), fun _ => rfl⟩
  case lsrZpx => exact .inr ⟨"LSR", fun cfg => (rfl : table cfg 0x56#8 = .unwired "LSR"), fun _ => rfl⟩
  case fill57 => exact .inl ⟨"???", .fill, .imp, fun c => fillCost c 0x57#8, by simp [operandMode],
    fun cfg => (rfl : table cfg 0x57#8 = fillEntry cfg 0x57#8), fun _ => rfl⟩
  case cli => exact .inr ⟨"CLI", fun cfg => (rfl : table cfg 0x58#8 = .unwired "CLI"), fun _ => rfl⟩
  case eorAby => exact .inr ⟨"EOR", fun cfg => (rfl : table cfg 0x59#8 = .unwired "EOR"), fun _ => rfl⟩
  case fill5A => exact .inl ⟨"???", .fill, .imp, fun c => fillCost c 0x5A#8, by simp [operandMode],
    fun cfg => (rfl : table cfg 0x5A#8 = fillEntry cfg 0x5A#8), fun _ => rfl⟩
  case fill5B => exact .inl ⟨"???", .fill, .imp, fun c => fillCost c 0x5B#8, by simp [operandMode],
    fun cfg => (rfl : table cfg 0x5B#8 = fillEntry cfg 0x5B#8), fun _ => rfl⟩
  case fill5C => exact .inl ⟨"???", .fill, .imp, fun c => fillCost c 0x5C#8, by simp [operandMode],
    fun cfg => (rfl : table cfg 0x5C#8 = fillEntry cfg 0x5C#8), fun _ => rfl⟩
  case eorAbx => exact .inr ⟨"EOR", fun cfg => (rfl : table cfg 0x5D#8 = .unwired "EOR"), fun _ => rfl⟩
  case lsrAbx => exact .inr ⟨"LSR", fun cfg => (rfl : table cfg 0x5E#8 = .unwired "LSR"), fun _ => rfl⟩
  case fill5F => exact .inl ⟨"???", .fill, .imp, fun c => fillCost c 0x5F#8, by simp [operandMode],
    fun cfg => (rfl : table cfg 0x5F#8 = fillEntry cfg 0x5F#8), fun _ => rfl⟩
  case rts => exact .inr ⟨"RTS", fun cfg => (rfl : table cfg 0x60#8 = .unwired "RTS"), fun _ => rfl⟩
  case adcIzx b =>
    exact .inl ⟨"ADC", .adc, .izx b, fun c => c.adc.izx, by simp [operandMode],
      fun cfg => (rfl : table cfg 0x61#8 = .run "ADC" .adc .izx cfg.adc.izx), fun _ => rfl⟩
  case fill62 => exact .inl ⟨"???", .fill, .imp, fun c => fillCost c 0x62#8, by simp [operandMode],
    fun cfg => (rfl : table cfg 0x62#8 = fillEntry cfg 0x62#8), fun _ => rfl⟩
  case fill63 => exact .inl ⟨"???", .fill, .imp, fun c => fillCost c 0x63#8, by simp [operandMode],
    fun cfg => (rfl : table cfg 0x63#8 = fillEntry cfg 0x63#8), fun _ => rfl⟩
  case fill64 => exact .inl ⟨"???", .fill, .imp, fun c => fillCost c 0x64#8, by simp [operandMode],
    fun cfg => (rfl : table cfg 0x64#8 = fillEntry cfg 0x64#8), fun _ => rfl⟩
  case adcZp0 b =>
    exact .inl ⟨"ADC", .adc, .zp0 b, fun c => c.adc.zp0, by simp [operandMode],
      fun cfg => (rfl : table cfg 0x65#8 = .run "ADC" .adc .zp0 cfg.adc.zp0), fun _ => rfl⟩
  case rorZp0 => exact .inr ⟨"ROR", fun cfg => (rfl : table cfg 0x66#8 = .unwired "ROR"), fun _ => rfl⟩
  case fill67 => exact .inl ⟨"???", .fill, .imp, fun c => fillCost c 0x67#8, by simp [operandMode],
    fun cfg => (rfl : table cfg 0x67#8 = fillEntry cfg 0x67#8), fun _ => rfl⟩
  case pla => exact .inr ⟨"PLA", fun cfg => (rfl : table cfg 0x68#8 = .unwired "PLA"), fun _ => rfl⟩
  case adcImm b =>
    exact .inl ⟨"ADC", .adc, .imm b, fun c => c.adc.imm, by simp [operandMode],
      fun cfg => (rfl : table cfg 0x69#8 = .run "ADC" .adc .imm cfg.adc.imm), fun _ => rfl⟩
  case rorAcc => exact .inr ⟨"ROR", fun cfg => (rfl : table cfg 0x6A#8 = .unwired "ROR"), fun _ => rfl⟩
  case fill6B => exact .inl ⟨"???", .fill, .imp, fun c => fillCost c 0x6B#8, by simp [operandMode],
    fun cfg => (rfl : table cfg 0x6B#8 = fillEntry cfg 0x6B#8), fun _ => rfl⟩
  case jmpInd => exact .inr ⟨"JMP", fun cfg => (rfl : table cfg 0x6C#8 = .unwired "JMP"), fun _ => rfl⟩
  case adcAbs lo hi =>
    exact .inl ⟨"ADC", .adc, .abs lo hi, fun c => c.adc.abs, by simp [operandMode],
      fun cfg => (rfl : table cfg 0x6D#8 = .run "ADC" .adc .abs cfg.adc.abs), fun _ => rfl⟩
  case rorAbs => exact .inr ⟨"ROR", fun cfg => (rfl : table cfg 0x6E#8 = .unwired "ROR"), fun _ => rfl⟩
  case fill6F => exact .inl ⟨"???", .fill, .imp, fun c => fillCost c 0x6F#8, by simp [operandMode],
    fun cfg => (rfl : table cfg 0x6F#8 = fillEntry cfg 0x6F#8), fun _ => rfl⟩
  case bvsRel => exact .inr ⟨"BVS", fun cfg => (rfl : table cfg 0x70#8 = .unwired "BVS"), fun _ => rfl⟩
  case adcIzy b =>
    exact .inl ⟨"ADC", .adc, .izy b, fun c => c.adc.izy, by simp [operandMode],
      fun cfg => (rfl : table cfg 0x71#8 = .run "ADC" .adc .izy cfg.adc.izy), fun _ => rfl⟩
  case fill72 => exact .inl ⟨"???", .fill, .imp, fun c => fillCost c 0x72#8, by simp [operandMode],
    fun cfg => (rfl : table cfg 0x72#8 = fillEntry cfg 0x72#8), fun _ => rfl⟩
  case fill73 => exact .inl ⟨"???", .fill, .imp, fun c => fillCost c 0x73#8, by simp [operandMode],
    fun cfg => (rfl : table cfg 0x73#8 = fillEntry cfg 0x73#8), fun _ => rfl⟩
  case fill74 => exact .inl ⟨"???", .fill, .imp, fun c => fillCost c 0x74#8, by simp [operandMode],
    fun cfg => (rfl : table cfg 0x74#8 = fillEntry cfg 0x74#8), fun _ => rfl⟩
  case adcZpx b =>
    exact .inl ⟨"ADC", .adc, .zpx b, fun c => c.adc.zpx, by simp [operandMode],
      fun cfg => (rfl : table cfg 0x75#8 = .run "ADC" .adc .zpx cfg.adc.zpx), fun _ => rfl⟩
  case rorZpx => exact .inr ⟨"ROR", fun cfg => (rfl : table cfg 0x76#8 = .unwired "ROR"), fun _ => rfl⟩
  case fill77 => exact .inl ⟨"???", .fill, .imp, fun c => fillCost c 0x77#8, by simp [operandMode],
    fun cfg => (rfl : table cfg 0x77#8 = fillEntry cfg 0x77#8), fun _ => rfl⟩
  case sei => exact .inr ⟨"SEI", fun cfg => (rfl : table cfg 0x78#8 = .unwired "SEI"), fun _ => rfl⟩
  case adcAby lo hi =>
    exact .inl ⟨"ADC", .adc, .aby lo hi, fun c => c.adc.aby, by simp [operandMode],
      fun cfg => (rfl : table cfg 0x79#8 = .run "ADC" .adc .aby cfg.adc.aby), fun _ => rfl⟩
  case fill7A => exact .inl ⟨"???", .fill, .imp, fun c => fillCost c 0x7A#8, by simp [operandMode],
    fun cfg => (rfl : table cfg 0x7A#8 = fillEntry cfg 0x7A#8), fun _ => rfl⟩
  case fill7B => exact .inl ⟨"???", .fill, .imp, fun c => fillCost c 0x7B#8, by simp [operandMode],
    fun cfg => (rfl : table cfg 0x7B#8 = fillEntry cfg 0x7B#8), fun _ => rfl⟩
  case fill7C => exact .inl ⟨"???", .fill, .imp, fun c => fillCost c 0x7C#8, by simp [operandMode],
    fun cfg => (rfl : table cfg 0x7C#8 = fillEntry cfg 0x7C#8), fun _ => rfl⟩
  case adcAbx lo hi =>
    exact .inl ⟨"ADC", .adc, .abx lo hi, fun c => c.adc.abx, by simp [operandMode],
      fun cfg => (rfl : table cfg 0x7D#8 = .run "ADC" .adc .abx cfg.adc.abx), fun _ => rfl⟩
  case rorAbx => exact .inr ⟨"ROR", fun cfg => (rfl : table cfg 0x7E#8 = .unwired "ROR"), fun _ => rfl⟩
  case fill7F => exact .inl ⟨"???", .fill, .imp, fun c => fillCost c 0x7F#8, by simp [operandMode],
    fun cfg => (rfl : table cfg 0x7F#8 = fillEntry cfg 0x7F#8), fun _ => rfl⟩
  case fill80 => exact .inl ⟨"???", .fill, .imp, fun c => fillCost c 0x80#8, by simp [operandMode],
    fun cfg => (rfl : table cfg 0x80#8 = fillEntry cfg 0x80#8), fun _ => rfl⟩
  case staIzx => exact .inr ⟨"STA", fun cfg => (rfl : table cfg 0x81#8 = .unwired "STA"), fun _ => rfl⟩
  case fill82 => exact .inl ⟨"???", .fill, .imp, fun c => fillCost c 0x82#8, by simp [operandMode],
    fun cfg => (rfl : table cfg 0x82#8 = fillEntry cfg 0x82#8), fun _ => rfl⟩
  case fill83 => exact .inl ⟨"???", .fill, .imp, fun c => fillCost c 0x83#8, by simp [operandMode],
    fun cfg => (rfl : table cfg 0x83#8 = fillEntry cfg 0x83#8), fun _ => rfl⟩
  case styZp0 => exact .inr ⟨"STY", fun cfg => (rfl : table cfg 0x84#8 = .unwired "STY"), fun _ => rfl⟩
  case staZp0 => exact .inr ⟨"STA", fun cfg => (rfl : table cfg 0x85#8 = .unwired "STA"), fun _ => rfl⟩
  case stxZp0 => exact .inr ⟨"STX", fun cfg => (rfl : table cfg 0x86#8 = .unwired "STX"), fun _ => rfl⟩
  case fill87 => exact .inl ⟨"???", .fill, .imp, fun c => fillCost c 0x87#8, by simp [operandMode],
    fun cfg => (rfl : table cfg 0x87#8 = fillEntry cfg 0x87#8), fun _ => rfl⟩
  case dey => exact .inr ⟨"DEY", fun cfg => (rfl : table cfg 0x88#8 = .unwired "DEY"), fun _ => rfl⟩
  case fill89 => exact .inl ⟨"???", .fill, .imp, fun c => fillCost c 0x89#8, by simp [operandMode],
    fun cfg => (rfl : table cfg 0x89#8 = fillEntry cfg 0x89#8), fun _ => rfl⟩
  case txa => exact .inr ⟨"TXA", fun cfg => (rfl : table cfg 0x8A#8 = .unwired "TXA"), fun _ => rfl⟩
  case fill8B => exact .inl ⟨"???", .fill, .imp, fun c => fillCost c 0x8B#8, by simp [operandMode],
    fun cfg => (rfl : table cfg 0x8B#8 = fillEntry cfg 0x8B#8), fun _ => rfl⟩
  case styAbs => exact .inr ⟨"STY", fun cfg => (rfl : table cfg 0x8C#8 = .unwired "STY"), fun _ => rfl⟩
  case staAbs => exact .inr ⟨"STA", fun cfg => (rfl : table cfg 0x8D#8 = .unwired "STA"), fun _ => rfl⟩
  case stxAbs => exact .inr ⟨"STX", fun cfg => (rfl : table cfg 0x8E#8 = .unwired "STX"), fun _ => rfl⟩
  case fill8F => exact .inl ⟨"???", .fill, .imp, fun c => fillCost c 0x8F#8, by simp [operandMode],
    fun cfg => (rfl : table cfg 0x8F#8 = fillEntry cfg 0x8F#8), fun _ => rfl⟩
  case bccRel => exact .inr ⟨"BCC", fun cfg => (rfl : table cfg 0x90#8 = .unwired "BCC"), fun _ => rfl⟩
  case staIzy => exact .inr ⟨"STA", fun cfg => (rfl : table cfg 0x91#8 = .unwired "STA"), fun _ => rfl⟩
  case fill92 => exact .inl ⟨"???", .fill, .imp, fun c => fillCost c 0x92#8, by simp [operandMode],
    fun cfg => (rfl : table cfg 0x92#8 = fillEntry cfg 0x92#8), fun _ => rfl⟩
  case fill93 => exact .inl ⟨"???", .fill, .imp, fun c => fillCost c 0x93#8, by simp [operandMode],
    fun cfg => (rfl : table cfg 0x93#8 = fillEntry cfg 0x93#8), fun _ => rfl⟩
  case styZpx => exact .inr ⟨"STY", fun cfg => (rfl : table cfg 0x94#8 = .unwired "STY"), fun _ => rfl⟩
  case staZpx => exact .inr ⟨"STA", fun cfg => (rfl : table cfg 0x95#8 = .unwired "STA"), fun _ => rfl⟩
  case stxZpy => exact .inr ⟨"STX", fun cfg => (rfl : table cfg 0x96#8 = .unwired "STX"), fun _ => rfl⟩
  case fill97 => exact .inl ⟨"???", .fill, .imp, fun c => fillCost c 0x97#8, by simp [operandMode],
    fun cfg => (rfl : table cfg 0x97#8 = fillEntry cfg 0x97#8), fun _ => rfl⟩
  case tya => exact .inr ⟨"TYA", fun cfg => (rfl : table cfg 0x98#8 = .unwired "TYA"), fun _ => rfl⟩
  case staAby => exact .inr ⟨"STA", fun cfg => (rfl : table cfg 0x99#8 = .unwired "STA"), fun _ => rfl⟩
  case txs => exact .inr ⟨"TXS", fun cfg => (rfl : table cfg 0x9A#8 = .unwired "TXS"), fun _ => rfl⟩
  case fill9B => exact .inl ⟨"???", .fill, .imp, fun c => fillCost c 0x9B#8, by simp [operandMode],
    fun cfg => (rfl : table cfg 0x9B#8 = fillEntry cfg 0x9B#8), fun _ => rfl⟩
  case fill9C => exact .inl ⟨"???", .fill, .imp, fun c => fillCost c 0x9C#8, by simp [operandMode],
    fun cfg => (rfl : table cfg 0x9C#8 = fillEntry cfg 0x9C#8), fun _ => rfl⟩
  case staAbx => exact .inr ⟨"STA", fun cfg => (rfl : table cfg 0x9D#8 = .unwired "STA"), fun _ => rfl⟩
  case fill9E => exact .inl ⟨"???", .fill, .imp, fun c => fillCost c 0x9E#8, by simp [operandMode],
    fun cfg => (rfl : table cfg 0x9E#8 = fillEntry cfg 0x9E#8), fun _ => rfl⟩
  case fill9F => exact .inl ⟨"???", .fill, .imp, fun c => fillCost c 0x9F#8, by simp [operandMode],
    fun cfg => (rfl : table cfg 0x9F#8 = fillEntry cfg 0x9F#8), fun _ => rfl⟩
  case ldyImm => exact .inr ⟨"LDY", fun cfg => (rfl : table cfg 0xA0#8 = .unwired "LDY"), fun _ => rfl⟩
  case ldaIzx => exact .inr ⟨"LDA", fun cfg => (rfl : table cfg 0xA1#8 = .unwired "LDA"), fun _ => rfl⟩
  case ldxImm => exact .inr ⟨"LDX", fun cfg => (rfl : table cfg 0xA2#8 = .unwired "LDX"), fun _ => rfl⟩
  case fillA3 => exact .inl ⟨"???", .fill, .imp, fun c => fillCost c 0xA3#8, by simp [operandMode],
    fun cfg => (rfl : table cfg 0xA3#8 = fillEntry cfg 0xA3#8), fun _ => rfl⟩
  case ldyZp0 => exact .inr ⟨"LDY", fun cfg => (rfl : table cfg 0xA4#8 = .unwired "LDY"), fun _ => rfl⟩
  case ldaZp0 => exact .inr ⟨"LDA", fun cfg => (rfl : table cfg 0xA5#8 = .unwired "LDA"), fun _ => rfl⟩
  case ldxZp0 => exact .inr ⟨"LDX", fun cfg => (rfl : table cfg 0xA6#8 = .unwired "LDX"), fun _ => rfl⟩
  case fillA7 => exact .inl ⟨"???", .fill, .imp, fun c => fillCost c 0xA7#8, by simp [operandMode],
    fun cfg => (rfl : table cfg 0xA7#8 = fillEntry cfg 0xA7#8), fun _ => rfl⟩
  case tay => exact .inr ⟨"TAY", fun cfg => (rfl : table cfg 0xA8#8 = .unwired "TAY"), fun _ => rfl⟩
  case ldaImm => exact .inr ⟨"LDA", fun cfg => (rfl : table cfg 0xA9#8 = .unwired "LDA"), fun _ => rfl⟩
  case tax => exact .inr ⟨"TAX", fun cfg => (rfl : table cfg 0xAA#8 = .unwired "TAX"), fun _ => rfl⟩
  case fillAB => exact .inl ⟨"???", .fill, .imp, fun c => fillCost c 0xAB#8, by simp [operandMode],
    fun cfg => (rfl : table cfg 0xAB#8 = fillEntry cfg 0xAB#8), fun _ => rfl⟩
  case ldyAbs => exact .inr ⟨"LDY", fun cfg => (rfl : table cfg 0xAC#8 = .unwired "LDY"), fun _ => rfl⟩
  case ldaAbs => exact .inr ⟨"LDA", fun cfg => (rfl : table cfg 0xAD#8 = .unwired "LDA"), fun _ => rfl⟩
  case ldxAbs => exact .inr ⟨"LDX", fun cfg => (rfl : table cfg 0xAE#8 = .unwired "LDX"), fun _ => rfl⟩
  case fillAF => exact .inl ⟨"???", .fill, .imp, fun c => fillCost c 0xAF#8, by simp [operandMode],
    fun cfg => (rfl : table cfg 0xAF#8 = fillEntry cfg 0xAF#8), fun _ => rfl⟩
  case bcsRel => exact .inr ⟨"BCS", fun cfg => (rfl : table cfg 0xB0#8 = .unwired "BCS"), fun _ => rfl⟩
  case ldaIzy => exact .inr ⟨"LDA", fun cfg => (rfl : table cfg 0xB1#8 = .unwired "LDA"), fun _ => rfl⟩
  case fillB2 => exact .inl ⟨"???", .fill, .imp, fun c => fillCost c 0xB2#8, by simp [operandMode],
    fun cfg => (rfl : table cfg 0xB2#8 = fillEntry cfg 0xB2#8), fun _ => rfl⟩
  case fillB3 => exact .inl ⟨"???", .fill, .imp, fun c => fillCost c 0xB3#8, by simp [operandMode],
    fun cfg => (rfl : table cfg 0xB3#8 = fillEntry cfg 0xB3#8), fun _ => rfl⟩
  case ldyZpx => exact .inr ⟨"LDY", fun cfg => (rfl : table cfg 0xB4#8 = .unwired "LDY"), fun _ => rfl⟩
  case ldaZpx => exact .inr ⟨"LDA", fun cfg => (rfl : table cfg 0xB5#8 = .unwired "LDA"), fun _ => rfl⟩
  case ldxZpy => exact .inr ⟨"LDX", fun cfg => (rfl : table cfg 0xB6#8 = .unwired "LDX"), fun _ => rfl⟩
  case fillB7 => exact .inl ⟨"???", .fill, .imp, fun c => fillCost c 0xB7#8, by simp [operandMode],
    fun cfg => (rfl : table cfg 0xB7#8 = fillEntry cfg 0xB7#8), fun _ => rfl⟩
  case clv => exact .inr ⟨"CLV", fun cfg => (rfl : table cfg 0xB8#8 = .unwired "CLV"), fun _ => rfl⟩
  case ldaAby => exact .inr ⟨"LDA", fun cfg => (rfl : table cfg 0xB9#8 = .unwired "LDA"), fun _ => rfl⟩
  case tsx => exact .inr ⟨"TSX", fun cfg => (rfl : table cfg 0xBA#8 = .unwired "TSX"), fun _ => rfl⟩
  case fillBB => exact .inl ⟨"???", .fill, .imp, fun c => fillCost c 0xBB#8, by simp [operandMode],
    fun cfg => (rfl : table cfg 0xBB#8 = fillEntry cfg 0xBB#8), fun _ => rfl⟩
  case ldyAbx => exact .inr ⟨"LDY", fun cfg => (rfl : table cfg 0xBC#8 = .unwired "LDY"), fun _ => rfl⟩
  case ldaAbx => exact .inr ⟨"LDA", fun cfg => (rfl : table cfg 0xBD#8 = .unwired "LDA"), fun _ => rfl⟩
  case ldxAby => exact .inr ⟨"LDX", fun cfg => (rfl : table cfg 0xBE#8 = .unwired "LDX"), fun _ => rfl⟩
  case fillBF => exact .inl ⟨"???", .fill, .imp, fun c => fillCost c 0xBF#8, by simp [operandMode],
    fun cfg => (rfl : table cfg 0xBF#8 = fillEntry cfg 0xBF#8), fun _ => rfl⟩
  case cpyImm => exact .inr ⟨"CPY", fun cfg => (rfl : table cfg 0xC0#8 = .unwired "CPY"), fun _ => rfl⟩
  case cmpIzx => exact .inr ⟨"CMP", fun cfg => (rfl : table cfg 0xC1#8 = .unwired "CMP"), fun _ => rfl⟩
  case fillC2 => exact .inl ⟨"???", .fill, .imp, fun c => fillCost c 0xC2#8, by simp [operandMode],
    fun cfg => (rfl : table cfg 0xC2#8 = fillEntry cfg 0xC2#8), fun _ => rfl⟩
  case fillC3 => exact .inl ⟨"???", .fill, .imp, fun c => fillCost c 0xC3#8, by simp [operandMode],
    fun cfg => (rfl : table cfg 0xC3#8 = fillEntry cfg 0xC3#8), fun _ => rfl⟩
  case cpyZp0 => exact .inr ⟨"CPY", fun cfg => (rfl : table cfg 0xC4#8 = .unwired "CPY"), fun _ => rfl⟩
  case cmpZp0 => exact .inr ⟨"CMP", fun cfg => (rfl : table cfg 0xC5#8 = .unwired "CMP"), fun _ => rfl⟩
  case decZp0 => exact .inr ⟨"DEC", fun cfg => (rfl : table cfg 0xC6#8 = .unwired "DEC"), fun _ => rfl⟩
  case fillC7 => exact .inl ⟨"???", .fill, .imp, fun c => fillCost c 0xC7#8, by simp [operandMode],
    fun cfg => (rfl : table cfg 0xC7#8 = fillEntry cfg 0xC7#8), fun _ => rfl⟩
  case iny => exact .inr ⟨"INY", fun cfg => (rfl : table cfg 0xC8#8 = .unwired "INY"), fun _ => rfl⟩
  case cmpImm => exact .inr ⟨"CMP", fun cfg => (rfl : table cfg 0xC9#8 = .unwired "CMP"), fun _ => rfl⟩
  case dex => exact .inr ⟨"DEX", fun cfg => (rfl : table cfg 0xCA#8 = .unwired "DEX"), fun _ => rfl⟩
  case fillCB => exact .inl ⟨"???", .fill, .imp, fun c => fillCost c 0xCB#8, by simp [operandMode],
    fun cfg => (rfl : table cfg 0xCB#8 = fillEntry cfg 0xCB#8), fun _ => rfl⟩
  case cpyAbs => exact .inr ⟨"CPY", fun cfg => (rfl : table cfg 0xCC#8 = .unwired "CPY"), fun _ => rfl⟩
  case cmpAbs => exact .inr ⟨"CMP", fun cfg => (rfl : table cfg 0xCD#8 = .unwired "CMP"), fun _ => rfl⟩
  case decAbs => exact .inr ⟨"DEC", fun cfg => (rfl : table cfg 0xCE#8 = .unwired "DEC"), fun _ => rfl⟩
  case fillCF => exact .inl ⟨"???", .fill, .imp, fun c => fillCost c 0xCF#8, by simp [operandMode],
    fun cfg => (rfl : table cfg 0xCF#8 = fillEntry cfg 0xCF#8), fun _ => rfl⟩
  case bneRel => exact .inr ⟨"BNE", fun cfg => (rfl : table cfg 0xD0#8 = .unwired "BNE"), fun _ => rfl⟩
  case cmpIzy => exact .inr ⟨"CMP", fun cfg => (rfl : table cfg 0xD1#8 = .unwired "CMP"), fun _ => rfl⟩
  case fillD2 => exact .inl ⟨"???", .fill, .imp, fun c => fillCost c 0xD2#8, by simp [operandMode],
    fun cfg => (rfl : table cfg 0xD2#8 = fillEntry cfg 0xD2#8), fun _ => rfl⟩
  case fillD3 => exact .inl ⟨"???", .fill, .imp, fun c => fillCost c 0xD3#8, by simp [operandMode],
    fun cfg => (rfl : table cfg 0xD3#8 = fillEntry cfg 0xD3#8), fun _ => rfl⟩
  case fillD4 => exact .inl ⟨"???", .fill, .imp, fun c => fillCost c 0xD4#8, by simp [operandMode],
    fun cfg => (rfl : table cfg 0xD4#8 = fillEntry cfg 0xD4#8), fun _ => rfl⟩
  case cmpZpx => exact .inr ⟨"CMP", fun cfg => (rfl : table cfg 0xD5#8 = .unwired "CMP"), fun _ => rfl⟩
  case decZpx => exact .inr ⟨"DEC", fun cfg => (rfl : table cfg 0xD6#8 = .unwired "DEC"), fun _ => rfl⟩
  case fillD7 => exact .inl ⟨"???", .fill, .imp, fun c => fillCost c 0xD7#8, by simp [operandMode],
    fun cfg => (rfl : table cfg 0xD7#8 = fillEntry cfg 0xD7#8), fun _ => rfl⟩
  case cld => exact .inr ⟨"CLD", fun cfg => (rfl : table cfg 0xD8#8 = .unwired "CLD"), fun _ => rfl⟩
  case cmpAby => exact .inr ⟨"CMP", fun cfg => (rfl : table cfg 0xD9#8 = .unwired "CMP"), fun _ => rfl⟩
  case fillDA => exact .inl ⟨"???", .fill, .imp, fun c => fillCost c 0xDA#8, by simp [operandMode],
    fun cfg => (rfl : table cfg 0xDA#8 = fillEntry cfg 0xDA#8), fun _ => rfl⟩
  case fillDB => exact .inl ⟨"???", .fill, .imp, fun c => fillCost c 0xDB#8, by simp [operandMode],
    fun cfg => (rfl : table cfg 0xDB#8 = fillEntry cfg 0xDB#8), fun _ => rfl⟩
  case fillDC => exact .inl ⟨"???", .fill, .imp, fun c => fillCost c 0xDC#8, by simp [operandMode],
    fun cfg => (rfl : table cfg 0xDC#8 = fillEntry cfg 0xDC#8), fun _ => rfl⟩
  case cmpAbx => exact .inr ⟨"CMP", fun cfg => (rfl : table cfg 0xDD#8 = .unwired "CMP"), fun _ => rfl⟩
  case decAbx => exact .inr ⟨"DEC", fun cfg => (rfl : table cfg 0xDE#8 = .unwired "DEC"), fun _ => rfl⟩
  case fillDF => exact .inl ⟨"???", .fill, .imp, fun c => fillCost c 0xDF#8, by simp [operandMode],
    fun cfg => (rfl : table cfg 0xDF#8 = fillEntry cfg 0xDF#8), fun _ => rfl⟩
  case cpxImm => exact .inr ⟨"CPX", fun cfg => (rfl : table cfg 0xE0#8 = .unwired "CPX"), fun _ => rfl⟩
  case sbcIzx b =>
    exact .inl ⟨"SBC", .sbc, .izx b, fun c => c.sbc.izx, by simp [operandMode],
      fun cfg => (rfl : table cfg 0xE1#8 = .run "SBC" .sbc .izx cfg.sbc.izx), fun _ => rfl⟩
  case fillE2 => exact .inl ⟨"???", .fill, .imp, fun c => fillCost c 0xE2#8, by simp [operandMode],
    fun cfg => (rfl : table cfg 0xE2#8 = fillEntry cfg 0xE2#8), fun _ => rfl⟩
  case fillE3 => exact .inl ⟨"???", .fill, .imp, fun c => fillCost c 0xE3#8, by simp [operandMode],
    fun cfg => (rfl : table cfg 0xE3#8 = fillEntry cfg 0xE3#8), fun _ => rfl⟩
  case cpxZp0 => exact .inr ⟨"CPX", fun cfg => (rfl : table cfg 0xE4#8 = .unwired "CPX"), fun _ => rfl⟩
  case sbcZp0 b =>
    exact .inl ⟨"SBC", .sbc, .zp0 b, fun c => c.sbc.zp0, by simp [operandMode],
      fun cfg => (rfl : table cfg 0xE5#8 = .run "SBC" .sbc .zp0 cfg.sbc.zp0), fun _ => rfl⟩
  case incZp0 => exact .inr ⟨"INC", fun cfg => (rfl : table cfg 0xE6#8 = .unwired "INC"), fun _ => rfl⟩
  case fillE7 => exact .inl ⟨"???", .fill, .imp, fun c => fillCost c 0xE7#8, by simp [operandMode],
    fun cfg => (rfl : table cfg 0xE7#8 = fillEntry cfg 0xE7#8), fun _ => rfl⟩
  case inx => exact .inr ⟨"INX", fun cfg => (rfl : table cfg 0xE8#8 = .unwired "INX"), fun _ => rfl⟩
  case sbcImm b =>
    exact .inl ⟨"SBC", .sbc, .imm b, fun c => c.sbc.imm, by simp [operandMode],
      fun cfg => (rfl : table cfg 0xE9#8 = .run "SBC" .sbc .imm cfg.sbc.imm), fun _ => rfl⟩
  case nop => exact .inr ⟨"NOP", fun cfg => (rfl : table cfg 0xEA#8 = .unwired "NOP"), fun _ => rfl⟩
  case fillEB => exact .inl ⟨"???", .fill, .imp, fun c => fillCost c 0xEB#8, by simp [operandMode],
    fun cfg => (rfl : table cfg 0xEB#8 = fillEntry cfg 0xEB#8), fun _ => rfl⟩
  case cpxAbs => exact .inr ⟨"CPX", fun cfg => (rfl : table cfg 0xEC#8 = .unwired "CPX"), fun _ => rfl⟩
  case sbcAbs lo hi =>
    exact .inl ⟨"SBC", .sbc, .abs lo hi, fun c => c.sbc.abs, by simp [operandMode],
      fun cfg => (rfl : table cfg 0xED#8 = .run "SBC" .sbc .abs cfg.sbc.abs), fun _ => rfl⟩
  case incAbs => exact .inr ⟨"INC", fun cfg => (rfl : table cfg 0xEE#8 = .unwired "INC"), fun _ => rfl⟩
  case fillEF => exact .inl ⟨"???", .fill, .imp, fun c => fillCost c 0xEF#8, by simp [operandMode],
    fun cfg => (rfl : table cfg 0xEF#8 = fillEntry cfg 0xEF#8), fun _ => rfl⟩
  case beqRel => exact .inr ⟨"BEQ", fun cfg => (rfl : table cfg 0xF0#8 = .unwired "BEQ"), fun _ => rfl⟩
  case sbcIzy b =>
    exact .inl ⟨"SBC", .sbc, .izy b, fun c => c.sbc.izy, by simp [operandMode],
      fun cfg => (rfl : table cfg 0xF1#8 = .run "SBC" .sbc .izy cfg.sbc.izy), fun _ => rfl⟩
  case fillF2 => exact .inl ⟨"???", .fill, .imp, fun c => fillCost c 0xF2#8, by simp [operandMode],
    fun cfg => (rfl : table cfg 0xF2#8 = fillEntry cfg 0xF2#8), fun _ => rfl⟩
  case fillF3 => exact .inl ⟨"???", .fill, .imp, fun c => fillCost c 0xF3#8, by simp [operandMode],
    fun cfg => (rfl : table cfg 0xF3#8 = fillEntry cfg 0xF3#8), fun _ => rfl⟩
  case fillF4 => exact .inl ⟨"???", .fill, .imp, fun c => fillCost c 0xF4#8, by simp [operandMode],
    fun cfg => (rfl : table cfg 0xF4#8 = fillEntry cfg 0xF4#8), fun _ => rfl⟩
  case sbcZpx b =>
    exact .inl ⟨"SBC", .sbc, .zpx b, fun c => c.sbc.zpx, by simp [operandMode],
      fun cfg => (rfl : table cfg 0xF5#8 = .run "SBC" .sbc .zpx cfg.sbc.zpx), fun _ => rfl⟩
  case incZpx => exact .inr ⟨"INC", fun cfg => (rfl : table cfg 0xF6#8 = .unwired "INC"), fun _ => rfl⟩
  case fillF7 => exact .inl ⟨"???", .fill, .imp, fun c => fillCost c 0xF7#8, by simp [operandMode],
    fun cfg => (rfl : table cfg 0xF7#8 = fillEntry cfg 0xF7#8), fun _ => rfl⟩
  case sed => exact .inr ⟨"SED", fun cfg => (rfl : table cfg 0xF8#8 = .unwired "SED"), fun _ => rfl⟩
  case sbcAby lo hi =>
    exact .inl ⟨"SBC", .sbc, .aby lo hi, fun c => c.sbc.aby, by simp [operandMode],
      fun cfg => (rfl : table cfg 0xF9#8 = .run "SBC" .sbc .aby cfg.sbc.aby), fun _ => rfl⟩
  case fillFA => exact .inl ⟨"???", .fill, .imp, fun c => fillCost c 0xFA#8, by simp [operandMode],
    fun cfg => (rfl : table cfg 0xFA#8 = fillEntry cfg 0xFA#8), fun _ => rfl⟩
  case fillFB => exact .inl ⟨"???", .fill, .imp, fun c => fillCost c 0xFB#8, by simp [operandMode],
    fun cfg => (rfl : table cfg 0xFB#8 = fillEntry cfg 0xFB#8), fun _ => rfl⟩
  case fillFC => exact .inl ⟨"???", .fill, .imp, fun c => fillCost c 0xFC#8, by simp [operandMode],
    fun cfg => (rfl : table cfg 0xFC#8 = fillEntry cfg 0xFC#8), fun _ => rfl⟩
  case sbcAbx lo hi =>
    exact .inl ⟨"SBC", .sbc, .abx lo hi, fun c => c.sbc.abx, by simp [operandMode],
      fun cfg => (rfl : table cfg 0xFD#8 = .run "SBC" .sbc .abx cfg.sbc.abx), fun _ => rfl⟩
  case incAbx => exact .inr ⟨"INC", fun cfg => (rfl : table cfg 0xFE#8 = .unwired "INC"), fun _ => rfl⟩
  case fillFF => exact .inl ⟨"???", .fill, .imp, fun c => fillCost c 0xFF#8, by simp [operandMode],
    fun cfg => (rfl : table cfg 0xFF#8 = fillEntry cfg 0xFF#8), fun _ => rfl⟩

/-- What an instruction does in a state: `exec_form` at that state. -/
theorem exec_cases (i : Instr) (s : State) :
    (∃ mnemonic op o base, table s.config (opcodeOf i) = .run mnemonic op (operandMode o) base ∧ operandMode o ≠ .rel ∧
      exec i s = runEntry op o base s) ∨
    (∃ mnemonic, table s.config (opcodeOf i) = .unwired mnemonic ∧ exec i s = refuseUnwired (opcodeOf i) s) := by
  rcases exec_form i with ⟨m, op, o, cost, hm, ht, he⟩ | ⟨m, ht, he⟩
  · exact .inl ⟨m, op, o, cost s.config, ht _, hm, he s⟩
  · exact .inr ⟨m, ht _, he s⟩

end Sys2Proof.Machine
end

