-- ==== Sys2Proof/Laws/PerInstr.lean ====
section
/-! SUPPORT. Laws/PerInstr.lean: the per-instruction family OpcodeSlot, one lemma a constructor of Instr. -/

namespace Sys2Proof.Laws.OpcodeSlot

/-- A format makes an instruction: from its bytes, with as many operand bytes as the format has. -/
def Makes (f : Format) (i : Instr) : Prop :=
  match f with
  | .f1 j => encode i = [opcodeOf i] ∧ j = i
  | .f2 f => ∃ b, encode i = [opcodeOf i, b] ∧ f b = i
  | .f3 f => ∃ lo hi, encode i = [opcodeOf i, lo, hi] ∧ f lo hi = i

/-- The opcode byte of an instruction selects the instruction's own slot of the decoder's map: the format that makes it. -/
def Statement (i : Instr) : Prop := Makes (formatOf (opcodeOf i)) i

theorem brk : Statement .brk := ⟨rfl, rfl⟩
theorem oraIzx : Statement .oraIzx := ⟨rfl, rfl⟩
theorem fill02 : Statement .fill02 := ⟨rfl, rfl⟩
theorem fill03 : Statement .fill03 := ⟨rfl, rfl⟩
theorem fill04 : Statement .fill04 := ⟨rfl, rfl⟩
theorem oraZp0 : Statement .oraZp0 := ⟨rfl, rfl⟩
theorem aslZp0 : Statement .aslZp0 := ⟨rfl, rfl⟩
theorem fill07 : Statement .fill07 := ⟨rfl, rfl⟩
theorem php : Statement .php := ⟨rfl, rfl⟩
theorem oraImm : Statement .oraImm := ⟨rfl, rfl⟩
theorem aslAcc : Statement .aslAcc := ⟨rfl, rfl⟩
theorem fill0B : Statement .fill0B := ⟨rfl, rfl⟩
theorem fill0C : Statement .fill0C := ⟨rfl, rfl⟩
theorem oraAbs : Statement .oraAbs := ⟨rfl, rfl⟩
theorem aslAbs : Statement .aslAbs := ⟨rfl, rfl⟩
theorem fill0F : Statement .fill0F := ⟨rfl, rfl⟩
theorem bplRel : Statement .bplRel := ⟨rfl, rfl⟩
theorem oraIzy : Statement .oraIzy := ⟨rfl, rfl⟩
theorem fill12 : Statement .fill12 := ⟨rfl, rfl⟩
theorem fill13 : Statement .fill13 := ⟨rfl, rfl⟩
theorem fill14 : Statement .fill14 := ⟨rfl, rfl⟩
theorem oraZpx : Statement .oraZpx := ⟨rfl, rfl⟩
theorem aslZpx : Statement .aslZpx := ⟨rfl, rfl⟩
theorem fill17 : Statement .fill17 := ⟨rfl, rfl⟩
theorem clc : Statement .clc := ⟨rfl, rfl⟩
theorem oraAby : Statement .oraAby := ⟨rfl, rfl⟩
theorem fill1A : Statement .fill1A := ⟨rfl, rfl⟩
theorem fill1B : Statement .fill1B := ⟨rfl, rfl⟩
theorem fill1C : Statement .fill1C := ⟨rfl, rfl⟩
theorem oraAbx : Statement .oraAbx := ⟨rfl, rfl⟩
theorem aslAbx : Statement .aslAbx := ⟨rfl, rfl⟩
theorem fill1F : Statement .fill1F := ⟨rfl, rfl⟩
theorem jsrAbs : Statement .jsrAbs := ⟨rfl, rfl⟩
theorem andIzx : Statement .andIzx := ⟨rfl, rfl⟩
theorem fill22 : Statement .fill22 := ⟨rfl, rfl⟩
theorem fill23 : Statement .fill23 := ⟨rfl, rfl⟩
theorem bitZp0 : Statement .bitZp0 := ⟨rfl, rfl⟩
theorem andZp0 : Statement .andZp0 := ⟨rfl, rfl⟩
theorem rolZp0 : Statement .rolZp0 := ⟨rfl, rfl⟩
theorem fill27 : Statement .fill27 := ⟨rfl, rfl⟩
theorem plp : Statement .plp := ⟨rfl, rfl⟩
theorem andImm : Statement .andImm := ⟨rfl, rfl⟩
theorem rolAcc : Statement .rolAcc := ⟨rfl, rfl⟩
theorem fill2B : Statement .fill2B := ⟨rfl, rfl⟩
theorem bitAbs : Statement .bitAbs := ⟨rfl, rfl⟩
theorem andAbs : Statement .andAbs := ⟨rfl, rfl⟩
theorem rolAbs : Statement .rolAbs := ⟨rfl, rfl⟩
theorem fill2F : Statement .fill2F := ⟨rfl, rfl⟩
theorem bmiRel : Statement .bmiRel := ⟨rfl, rfl⟩
theorem andIzy : Statement .andIzy := ⟨rfl, rfl⟩
theorem fill32 : Statement .fill32 := ⟨rfl, rfl⟩
theorem fill33 : Statement .fill33 := ⟨rfl, rfl⟩
theorem fill34 : Statement .fill34 := ⟨rfl, rfl⟩
theorem andZpx : Statement .andZpx := ⟨rfl, rfl⟩
theorem rolZpx : Statement .rolZpx := ⟨rfl, rfl⟩
theorem fill37 : Statement .fill37 := ⟨rfl, rfl⟩
theorem sec : Statement .sec := ⟨rfl, rfl⟩
theorem andAby : Statement .andAby := ⟨rfl, rfl⟩
theorem fill3A : Statement .fill3A := ⟨rfl, rfl⟩
theorem fill3B : Statement .fill3B := ⟨rfl, rfl⟩
theorem fill3C : Statement .fill3C := ⟨rfl, rfl⟩
theorem andAbx : Statement .andAbx := ⟨rfl, rfl⟩
theorem rolAbx : Statement .rolAbx := ⟨rfl, rfl⟩
theorem fill3F : Statement .fill3F := ⟨rfl, rfl⟩
theorem rti : Statement .rti := ⟨rfl, rfl⟩
theorem eorIzx : Statement .eorIzx := ⟨rfl, rfl⟩
theorem fill42 : Statement .fill42 := ⟨rfl, rfl⟩
theorem fill43 : Statement .fill43 := ⟨rfl, rfl⟩
theorem fill44 : Statement .fill44 := ⟨rfl, rfl⟩
theorem eorZp0 : Statement .eorZp0 := ⟨rfl, rfl⟩
theorem lsrZp0 : Statement .lsrZp0 := ⟨rfl, rfl⟩
theorem fill47 : Statement .fill47 := ⟨rfl, rfl⟩
theorem pha : Statement .pha := ⟨rfl, rfl⟩
theorem eorImm : Statement .eorImm := ⟨rfl, rfl⟩
theorem lsrAcc : Statement .lsrAcc := ⟨rfl, rfl⟩
theorem fill4B : Statement .fill4B := ⟨rfl, rfl⟩
theorem jmpAbs : Statement .jmpAbs := ⟨rfl, rfl⟩
theorem eorAbs : Statement .eorAbs := ⟨rfl, rfl⟩
theorem lsrAbs : Statement .lsrAbs := ⟨rfl, rfl⟩
theorem fill4F : Statement .fill4F := ⟨rfl, rfl⟩
theorem bvcRel : Statement .bvcRel := ⟨rfl, rfl⟩
theorem eorIzy : Statement .eorIzy := ⟨rfl, rfl⟩
theorem fill52 : Statement .fill52 := ⟨rfl, rfl⟩
theorem fill53 : Statement .fill53 := ⟨rfl, rfl⟩
theorem fill54 : Statement .fill54 := ⟨rfl, rfl⟩
theorem eorZpx : Statement .eorZpx := ⟨rfl, rfl⟩
theorem lsrZpx : Statement .lsrZpx := ⟨rfl, rfl⟩
theorem fill57 : Statement .fill57 := ⟨rfl, rfl⟩
theorem cli : Statement .cli := ⟨rfl, rfl⟩
theorem eorAby : Statement .eorAby := ⟨rfl, rfl⟩
theorem fill5A : Statement .fill5A := ⟨rfl, rfl⟩
theorem fill5B : Statement .fill5B := ⟨rfl, rfl⟩
theorem fill5C : Statement .fill5C := ⟨rfl, rfl⟩
theorem eorAbx : Statement .eorAbx := ⟨rfl, rfl⟩
theorem lsrAbx : Statement .lsrAbx := ⟨rfl, rfl⟩
theorem fill5F : Statement .fill5F := ⟨rfl, rfl⟩
theorem rts : Statement .rts := ⟨rfl, rfl⟩
theorem adcIzx (b : Byte) : Statement (.adcIzx b) :=
  show Makes (formatOf 0x61#8) (.adcIzx b) from ⟨b, rfl, rfl⟩
theorem fill62 : Statement .fill62 := ⟨rfl, rfl⟩
theorem fill63 : Statement .fill63 := ⟨rfl, rfl⟩
theorem fill64 : Statement .fill64 := ⟨rfl, rfl⟩
theorem adcZp0 (b : Byte) : Statement (.adcZp0 b) :=
  show Makes (formatOf 0x65#8) (.adcZp0 b) from ⟨b, rfl, rfl⟩
theorem rorZp0 : Statement .rorZp0 := ⟨rfl, rfl⟩
theorem fill67 : Statement .fill67 := ⟨rfl, rfl⟩
theorem pla : Statement .pla := ⟨rfl, rfl⟩
theorem adcImm (b : Byte) : Statement (.adcImm b) :=
  show Makes (formatOf 0x69#8) (.adcImm b) from ⟨b, rfl, rfl⟩
theorem rorAcc : Statement .rorAcc := ⟨rfl, rfl⟩
theorem fill6B : Statement .fill6B := ⟨rfl, rfl⟩
theorem jmpInd : Statement .jmpInd := ⟨rfl, rfl⟩
theorem adcAbs (lo hi : Byte) : Statement (.adcAbs lo hi) :=
  show Makes (formatOf 0x6D#8) (.adcAbs lo hi) from ⟨lo, hi, rfl, rfl⟩
theorem rorAbs : Statement .rorAbs := ⟨rfl, rfl⟩
theorem fill6F : Statement .fill6F := ⟨rfl, rfl⟩
theorem bvsRel : Statement .bvsRel := ⟨rfl, rfl⟩
theorem adcIzy (b : Byte) : Statement (.adcIzy b) :=
  show Makes (formatOf 0x71#8) (.adcIzy b) from ⟨b, rfl, rfl⟩
theorem fill72 : Statement .fill72 := ⟨rfl, rfl⟩
theorem fill73 : Statement .fill73 := ⟨rfl, rfl⟩
theorem fill74 : Statement .fill74 := ⟨rfl, rfl⟩
theorem adcZpx (b : Byte) : Statement (.adcZpx b) :=
  show Makes (formatOf 0x75#8) (.adcZpx b) from ⟨b, rfl, rfl⟩
theorem rorZpx : Statement .rorZpx := ⟨rfl, rfl⟩
theorem fill77 : Statement .fill77 := ⟨rfl, rfl⟩
theorem sei : Statement .sei := ⟨rfl, rfl⟩
theorem adcAby (lo hi : Byte) : Statement (.adcAby lo hi) :=
  show Makes (formatOf 0x79#8) (.adcAby lo hi) from ⟨lo, hi, rfl, rfl⟩
theorem fill7A : Statement .fill7A := ⟨rfl, rfl⟩
theorem fill7B : Statement .fill7B := ⟨rfl, rfl⟩
theorem fill7C : Statement .fill7C := ⟨rfl, rfl⟩
theorem adcAbx (lo hi : Byte) : Statement (.adcAbx lo hi) :=
  show Makes (formatOf 0x7D#8) (.adcAbx lo hi) from ⟨lo, hi, rfl, rfl⟩
theorem rorAbx : Statement .rorAbx := ⟨rfl, rfl⟩
theorem fill7F : Statement .fill7F := ⟨rfl, rfl⟩
theorem fill80 : Statement .fill80 := ⟨rfl, rfl⟩
theorem staIzx : Statement .staIzx := ⟨rfl, rfl⟩
theorem fill82 : Statement .fill82 := ⟨rfl, rfl⟩
theorem fill83 : Statement .fill83 := ⟨rfl, rfl⟩
theorem styZp0 : Statement .styZp0 := ⟨rfl, rfl⟩
theorem staZp0 : Statement .staZp0 := ⟨rfl, rfl⟩
theorem stxZp0 : Statement .stxZp0 := ⟨rfl, rfl⟩
theorem fill87 : Statement .fill87 := ⟨rfl, rfl⟩
theorem dey : Statement .dey := ⟨rfl, rfl⟩
theorem fill89 : Statement .fill89 := ⟨rfl, rfl⟩
theorem txa : Statement .txa := ⟨rfl, rfl⟩
theorem fill8B : Statement .fill8B := ⟨rfl, rfl⟩
theorem styAbs : Statement .styAbs := ⟨rfl, rfl⟩
theorem staAbs : Statement .staAbs := ⟨rfl, rfl⟩
theorem stxAbs : Statement .stxAbs := ⟨rfl, rfl⟩
theorem fill8F : Statement .fill8F := ⟨rfl, rfl⟩
theorem bccRel : Statement .bccRel := ⟨rfl, rfl⟩
theorem staIzy : Statement .staIzy := ⟨rfl, rfl⟩
theorem fill92 : Statement .fill92 := ⟨rfl, rfl⟩
theorem fill93 : Statement .fill93 := ⟨rfl, rfl⟩
theorem styZpx : Statement .styZpx := ⟨rfl, rfl⟩
theorem staZpx : Statement .staZpx := ⟨rfl, rfl⟩
theorem stxZpy : Statement .stxZpy := ⟨rfl, rfl⟩
theorem fill97 : Statement .fill97 := ⟨rfl, rfl⟩
theorem tya : Statement .tya := ⟨rfl, rfl⟩
theorem staAby : Statement .staAby := ⟨rfl, rfl⟩
theorem txs : Statement .txs := ⟨rfl, rfl⟩
theorem fill9B : Statement .fill9B := ⟨rfl, rfl⟩
theorem fill9C : Statement .fill9C := ⟨rfl, rfl⟩
theorem staAbx : Statement .staAbx := ⟨rfl, rfl⟩
theorem fill9E : Statement .fill9E := ⟨rfl, rfl⟩
theorem fill9F : Statement .fill9F := ⟨rfl, rfl⟩
theorem ldyImm : Statement .ldyImm := ⟨rfl, rfl⟩
theorem ldaIzx : Statement .ldaIzx := ⟨rfl, rfl⟩
theorem ldxImm : Statement .ldxImm := ⟨rfl, rfl⟩
theorem fillA3 : Statement .fillA3 := ⟨rfl, rfl⟩
theorem ldyZp0 : Statement .ldyZp0 := ⟨rfl, rfl⟩
theorem ldaZp0 : Statement .ldaZp0 := ⟨rfl, rfl⟩
theorem ldxZp0 : Statement .ldxZp0 := ⟨rfl, rfl⟩
theorem fillA7 : Statement .fillA7 := ⟨rfl, rfl⟩
theorem tay : Statement .tay := ⟨rfl, rfl⟩
theorem ldaImm : Statement .ldaImm := ⟨rfl, rfl⟩
theorem tax : Statement .tax := ⟨rfl, rfl⟩
theorem fillAB : Statement .fillAB := ⟨rfl, rfl⟩
theorem ldyAbs : Statement .ldyAbs := ⟨rfl, rfl⟩
theorem ldaAbs : Statement .ldaAbs := ⟨rfl, rfl⟩
theorem ldxAbs : Statement .ldxAbs := ⟨rfl, rfl⟩
theorem fillAF : Statement .fillAF := ⟨rfl, rfl⟩
theorem bcsRel : Statement .bcsRel := ⟨rfl, rfl⟩
theorem ldaIzy : Statement .ldaIzy := ⟨rfl, rfl⟩
theorem fillB2 : Statement .fillB2 := ⟨rfl, rfl⟩
theorem fillB3 : Statement .fillB3 := ⟨rfl, rfl⟩
theorem ldyZpx : Statement .ldyZpx := ⟨rfl, rfl⟩
theorem ldaZpx : Statement .ldaZpx := ⟨rfl, rfl⟩
theorem ldxZpy : Statement .ldxZpy := ⟨rfl, rfl⟩
theorem fillB7 : Statement .fillB7 := ⟨rfl, rfl⟩
theorem clv : Statement .clv := ⟨rfl, rfl⟩
theorem ldaAby : Statement .ldaAby := ⟨rfl, rfl⟩
theorem tsx : Statement .tsx := ⟨rfl, rfl⟩
theorem fillBB : Statement .fillBB := ⟨rfl, rfl⟩
theorem ldyAbx : Statement .ldyAbx := ⟨rfl, rfl⟩
theorem ldaAbx : Statement .ldaAbx := ⟨rfl, rfl⟩
theorem ldxAby : Statement .ldxAby := ⟨rfl, rfl⟩
theorem fillBF : Statement .fillBF := ⟨rfl, rfl⟩
theorem cpyImm : Statement .cpyImm := ⟨rfl, rfl⟩
theorem cmpIzx : Statement .cmpIzx := ⟨rfl, rfl⟩
theorem fillC2 : Statement .fillC2 := ⟨rfl, rfl⟩
theorem fillC3 : Statement .fillC3 := ⟨rfl, rfl⟩
theorem cpyZp0 : Statement .cpyZp0 := ⟨rfl, rfl⟩
theorem cmpZp0 : Statement .cmpZp0 := ⟨rfl, rfl⟩
theorem decZp0 : Statement .decZp0 := ⟨rfl, rfl⟩
theorem fillC7 : Statement .fillC7 := ⟨rfl, rfl⟩
theorem iny : Statement .iny := ⟨rfl, rfl⟩
theorem cmpImm : Statement .cmpImm := ⟨rfl, rfl⟩
theorem dex : Statement .dex := ⟨rfl, rfl⟩
theorem fillCB : Statement .fillCB := ⟨rfl, rfl⟩
theorem cpyAbs : Statement .cpyAbs := ⟨rfl, rfl⟩
theorem cmpAbs : Statement .cmpAbs := ⟨rfl, rfl⟩
theorem decAbs : Statement .decAbs := ⟨rfl, rfl⟩
theorem fillCF : Statement .fillCF := ⟨rfl, rfl⟩
theorem bneRel : Statement .bneRel := ⟨rfl, rfl⟩
theorem cmpIzy : Statement .cmpIzy := ⟨rfl, rfl⟩
theorem fillD2 : Statement .fillD2 := ⟨rfl, rfl⟩
theorem fillD3 : Statement .fillD3 := ⟨rfl, rfl⟩
theorem fillD4 : Statement .fillD4 := ⟨rfl, rfl⟩
theorem cmpZpx : Statement .cmpZpx := ⟨rfl, rfl⟩
theorem decZpx : Statement .decZpx := ⟨rfl, rfl⟩
theorem fillD7 : Statement .fillD7 := ⟨rfl, rfl⟩
theorem cld : Statement .cld := ⟨rfl, rfl⟩
theorem cmpAby : Statement .cmpAby := ⟨rfl, rfl⟩
theorem fillDA : Statement .fillDA := ⟨rfl, rfl⟩
theorem fillDB : Statement .fillDB := ⟨rfl, rfl⟩
theorem fillDC : Statement .fillDC := ⟨rfl, rfl⟩
theorem cmpAbx : Statement .cmpAbx := ⟨rfl, rfl⟩
theorem decAbx : Statement .decAbx := ⟨rfl, rfl⟩
theorem fillDF : Statement .fillDF := ⟨rfl, rfl⟩
theorem cpxImm : Statement .cpxImm := ⟨rfl, rfl⟩
theorem sbcIzx (b : Byte) : Statement (.sbcIzx b) :=
  show Makes (formatOf 0xE1#8) (.sbcIzx b) from ⟨b, rfl, rfl⟩
theorem fillE2 : Statement .fillE2 := ⟨rfl, rfl⟩
theorem fillE3 : Statement .fillE3 := ⟨rfl, rfl⟩
theorem cpxZp0 : Statement .cpxZp0 := ⟨rfl, rfl⟩
theorem sbcZp0 (b : Byte) : Statement (.sbcZp0 b) :=
  show Makes (formatOf 0xE5#8) (.sbcZp0 b) from ⟨b, rfl, rfl⟩
theorem incZp0 : Statement .incZp0 := ⟨rfl, rfl⟩
theorem fillE7 : Statement .fillE7 := ⟨rfl, rfl⟩
theorem inx : Statement .inx := ⟨rfl, rfl⟩
theorem sbcImm (b : Byte) : Statement (.sbcImm b) :=
  show Makes (formatOf 0xE9#8) (.sbcImm b) from ⟨b, rfl, rfl⟩
theorem nop : Statement .nop := ⟨rfl, rfl⟩
theorem fillEB : Statement .fillEB := ⟨rfl, rfl⟩
theorem cpxAbs : Statement .cpxAbs := ⟨rfl, rfl⟩
theorem sbcAbs (lo hi : Byte) : Statement (.sbcAbs lo hi) :=
  show Makes (formatOf 0xED#8) (.sbcAbs lo hi) from ⟨lo, hi, rfl, rfl⟩
theorem incAbs : Statement .incAbs := ⟨rfl, rfl⟩
theorem fillEF : Statement .fillEF := ⟨rfl, rfl⟩
theorem beqRel : Statement .beqRel := ⟨rfl, rfl⟩
theorem sbcIzy (b : Byte) : Statement (.sbcIzy b) :=
  show Makes (formatOf 0xF1#8) (.sbcIzy b) from ⟨b, rfl, rfl⟩
theorem fillF2 : Statement .fillF2 := ⟨rfl, rfl⟩
theorem fillF3 : Statement .fillF3 := ⟨rfl, rfl⟩
theorem fillF4 : Statement .fillF4 := ⟨rfl, rfl⟩
theorem sbcZpx (b : Byte) : Statement (.sbcZpx b) :=
  show Makes (formatOf 0xF5#8) (.sbcZpx b) from ⟨b, rfl, rfl⟩
theorem incZpx : Statement .incZpx := ⟨rfl, rfl⟩
theorem fillF7 : Statement .fillF7 := ⟨rfl, rfl⟩
theorem sed : Statement .sed := ⟨rfl, rfl⟩
theorem sbcAby (lo hi : Byte) : Statement (.sbcAby lo hi) :=
  show Makes (formatOf 0xF9#8) (.sbcAby lo hi) from ⟨lo, hi, rfl, rfl⟩
theorem fillFA : Statement .fillFA := ⟨rfl, rfl⟩
theorem fillFB : Statement .fillFB := ⟨rfl, rfl⟩
theorem fillFC : Statement .fillFC := ⟨rfl, rfl⟩
theorem sbcAbx (lo hi : Byte) : Statement (.sbcAbx lo hi) :=
  show Makes (formatOf 0xFD#8) (.sbcAbx lo hi) from ⟨lo, hi, rfl, rfl⟩
theorem incAbx : Statement .incAbx := ⟨rfl, rfl⟩
theorem fillFF : Statement .fillFF := ⟨rfl, rfl⟩

end Sys2Proof.Laws.OpcodeSlot
end

