-- ==== Sys2Proof/Laws/Step.lean ====
section
/-! SUPPORT. Laws/Step.lean: what a pulse is in each of its three cases, what a fetch leaves, and runs of idle pulses. -/

namespace Sys2Proof.Machine

/-! ### The three cases of a pulse -/

theorem step_refused {s : State} (h : s.refused = true) : step s = .refused .noFurtherPulse := by simp [step, h]

theorem step_idle {s : State} (h : s.refused = false) (hc : s.cycles ≠ 0#8) : step s = .next s.tick := by
  rw [step, if_neg (by simp [h]), if_neg hc]

theorem step_dispatch {s : State} (h : s.refused = false) (hc : s.cycles = 0#8) :
    step s = exec (fetchInstr s).1 (fetchInstr s).2 := by simp [step, h, hc]

/-- A next state comes from an idle pulse or from the meaning of the instruction fetched; never from a refused state. -/
theorem step_next_cases {s t : State} (h : step s = .next t) :
    s.refused = false ∧ ((s.cycles ≠ 0#8 ∧ t = s.tick) ∨ (s.cycles = 0#8 ∧ exec (fetchInstr s).1 (fetchInstr s).2 = .next t)) := by
  cases hr : s.refused
  · by_cases hc : s.cycles = 0#8
    · rw [step_dispatch hr hc] at h; exact ⟨rfl, .inr ⟨hc, h⟩⟩
    · rw [step_idle hr hc] at h
      exact ⟨rfl, .inl ⟨hc, by simpa using h.symm⟩⟩
  · rw [step_refused hr] at h; simp at h

/-! ### Fetching -/

/-- A property of every byte, one case a byte. -/
theorem forall_byte {P : Byte → Prop} (h : ∀ n, n < 256 → P (BitVec.ofNat 8 n)) (b : Byte) : P b := by
  have := h b.toNat b.isLt
  simpa using this

/-- The instruction a format makes has the opcode byte that selected the format. -/
theorem formatOf_opcode (b : Byte) :
    match formatOf b with
    | .f1 i => opcodeOf i = b
    | .f2 f => ∀ x, opcodeOf (f x) = b
    | .f3 f => ∀ x y, opcodeOf (f x y) = b := by
  refine forall_byte (P := fun b => match formatOf b with
    | .f1 i => opcodeOf i = b
    | .f2 f => ∀ x, opcodeOf (f x) = b
    | .f3 f => ∀ x y, opcodeOf (f x y) = b) (fun n hn => ?_) b
  interval_cases n <;> first | rfl | exact fun _ => rfl | exact fun _ _ => rfl

/-- The instruction fetched has the opcode byte the port answered at PC. -/
theorem fetchInstr_opcode (s : State) : opcodeOf (fetchInstr s).1 = s.portAnswer s.pc := by
  have h := formatOf_opcode (s.portAnswer s.pc)
  unfold fetchInstr
  simp only [fetchOpcode_byte]
  split <;> rename_i heq <;> rw [heq] at h
  · exact h
  · exact h _
  · exact h _ _

/-- How many bytes a fetch takes. -/
theorem fetchInstr_pc (s : State) :
    (fetchInstr s).2.pc = s.pc + BitVec.ofNat 16 (1 + operandCount (s.portAnswer s.pc)) := by
  unfold fetchInstr operandCount
  simp only [fetchOpcode_byte]
  split <;> rename_i heq <;> simp [heq, BitVec.add_assoc]

@[simp] theorem fetchInstr_a (s : State) : (fetchInstr s).2.a = s.a := by
  unfold fetchInstr; simp only []; split <;> simp

@[simp] theorem fetchInstr_x (s : State) : (fetchInstr s).2.x = s.x := by
  unfold fetchInstr; simp only []; split <;> simp

@[simp] theorem fetchInstr_y (s : State) : (fetchInstr s).2.y = s.y := by
  unfold fetchInstr; simp only []; split <;> simp

@[simp] theorem fetchInstr_sp (s : State) : (fetchInstr s).2.sp = s.sp := by
  unfold fetchInstr; simp only []; split <;> simp

@[simp] theorem fetchInstr_p (s : State) : (fetchInstr s).2.p = s.p := by
  unfold fetchInstr; simp only []; split <;> simp

@[simp] theorem fetchInstr_absAddr (s : State) : (fetchInstr s).2.absAddr = s.absAddr := by
  unfold fetchInstr; simp only []; split <;> simp

@[simp] theorem fetchInstr_relAddr (s : State) : (fetchInstr s).2.relAddr = s.relAddr := by
  unfold fetchInstr; simp only []; split <;> simp

@[simp] theorem fetchInstr_fetched (s : State) : (fetchInstr s).2.fetched = s.fetched := by
  unfold fetchInstr; simp only []; split <;> simp

@[simp] theorem fetchInstr_cycles (s : State) : (fetchInstr s).2.cycles = s.cycles := by
  unfold fetchInstr; simp only []; split <;> simp

@[simp] theorem fetchInstr_refused (s : State) : (fetchInstr s).2.refused = s.refused := by
  unfold fetchInstr; simp only []; split <;> simp

@[simp] theorem fetchInstr_mem (s : State) : (fetchInstr s).2.mem = s.mem := by
  unfold fetchInstr; simp only []; split <;> simp

@[simp] theorem fetchInstr_stale (s : State) : (fetchInstr s).2.stale = s.stale := by
  unfold fetchInstr; simp only []; split <;> simp

@[simp] theorem fetchInstr_config (s : State) : (fetchInstr s).2.config = s.config := by
  unfold fetchInstr; simp only []; split <;> simp

/-- The opcode fetch empties the fetch cache. -/
@[simp] theorem fetchInstr_fetchValid (s : State) : (fetchInstr s).2.fetchValid = false := by
  unfold fetchInstr; simp only []; split <;> simp

@[simp] theorem fetchInstr_flag (s : State) (f : Flag) : (fetchInstr s).2.flag f = s.flag f :=
  flag_congr (fetchInstr_p s) f

/-! ### Idle pulses -/

/-- From an unrefused state, as many idle pulses as the counter allows change the counter alone (R161, R164). -/
theorem run_idle {s : State} (h : s.refused = false) (n : Nat) (hn : n ≤ s.cycles.toNat) :
    core.run n s = .next { s with cycles := BitVec.ofNat 8 (s.cycles.toNat - n) } := by
  induction n generalizing s with
  | zero => simp [Host.Core.run]
  | succ n ih =>
    have hc : s.cycles ≠ 0#8 := by
      intro h0; rw [h0] at hn; simp at hn
    have hs : core.step s = .next s.tick := step_idle h hc
    have ht : s.tick.cycles.toNat = s.cycles.toNat - 1 := by
      simp only [tick_cycles]
      bv_omega
    simp only [Host.Core.run, hs]
    rw [ih (by simpa using h) (by omega)]
    simp only [ht, Nat.sub_sub, Nat.add_comm 1 n]
    rfl

end Sys2Proof.Machine
end

