-- ==== Sys2Proof/Tests/Slice0.lean ====
section
/-! SUPPORT. Tests/Slice0.lean: the author's own tests, each a named theorem. The expected results are the spec's: the words of
R85 to R87, the vectors of spec/95_test_vectors.md (named by their id), and the examples of R190 to R207. The last part shows, for
each obligation with hypotheses, concrete values that meet them. -/

namespace Sys2Proof.Tests

open Machine Claims

set_option maxRecDepth 4000

/-! ### Ill-formed terms are refused -/

/-- A cost map that is 2 everywhere but at one opcode. -/
def costsBut (opcode : Byte) (n : Nat) : Byte → Nat := fun op => if op = opcode then n else 2

/-- The opcode a construction is refused for, if it is. -/
def refusedFor (r : Except ConfigError Config) : Option Byte :=
  match r with
  | .ok _ => none
  | .error (.costOutOfRange op) => some op

/-- T-ENG-9: a wired cost of 0 is refused at construction (R152, D19). -/
theorem test_config_refuses_wired_cost_0 :
    refusedFor (Config.build (costsBut 0x69#8 0) (costsBut 0x69#8 2) .loFirst) = some 0x69#8 := by decide

/-- A wired cost of 255 is refused (R152, D19). -/
theorem test_config_refuses_wired_cost_255 :
    refusedFor (Config.build (costsBut 0xF1#8 255) (costsBut 0xF1#8 2) .hiFirst) = some 0xF1#8 := by decide

/-- A fill cost of 0 is refused (R152, R154). -/
theorem test_config_refuses_fill_cost_0 :
    refusedFor (Config.build (costsBut 0x02#8 2) (costsBut 0x02#8 0) .loFirst) = some 0x02#8 := by decide

/-- The costs 1 and 254 are accepted (R152). -/
theorem test_config_accepts_1_and_254 :
    refusedFor (Config.build (costsBut 0x69#8 254) (costsBut 0x02#8 1) .loFirst) = none := by decide

/-- Declared RAM out of order, with an address twice, or beyond the address space is ill formed (R51). -/
theorem test_memory_form_refused :
    Machine.State.wellFormed { State.reset with mem := [(2, 0#8), (1, 0#8)] } = false ∧
    Machine.State.wellFormed { State.reset with mem := [(1, 0#8), (1, 5#8)] } = false ∧
    Machine.State.wellFormed { State.reset with mem := [(65536, 0#8)] } = false ∧
    Machine.State.wellFormed { State.reset with mem := [(0, 0#8), (65535, 0#8)] } = true := by decide

/-- Too few bytes are no instruction (R82). -/
theorem test_decode_refuses_missing_bytes :
    decode [] = .error .noOpcode ∧ decode [0x69#8] = .error (.truncated 0x69#8) ∧
    decode [0x6D#8, 0x34#8] = .error (.truncated 0x6D#8) := ⟨rfl, rfl, rfl⟩

/-! ### Every word decodes to its instruction (R85 to R87) -/

/-- Whether each one-byte word decodes to, and is the encoding of, the instruction beside it. -/
def oneByteWords (words : List (Byte × Instr)) : Bool :=
  words.all fun w => (match decode [w.1] with | .ok r => r == (w.2, []) | .error _ => false) && encode w.2 == [w.1]

/-- The one-byte words 00 to 0F (R86). -/
theorem test_words_0x : oneByteWords
    [(0x00#8, .brk), (0x01#8, .oraIzx), (0x02#8, .fill02), (0x03#8, .fill03), (0x04#8, .fill04),
     (0x05#8, .oraZp0), (0x06#8, .aslZp0), (0x07#8, .fill07), (0x08#8, .php), (0x09#8, .oraImm),
     (0x0A#8, .aslAcc), (0x0B#8, .fill0B), (0x0C#8, .fill0C), (0x0D#8, .oraAbs), (0x0E#8, .aslAbs),
     (0x0F#8, .fill0F)] = true := by decide

/-- The one-byte words 10 to 1F (R86). -/
theorem test_words_1x : oneByteWords
    [(0x10#8, .bplRel), (0x11#8, .oraIzy), (0x12#8, .fill12), (0x13#8, .fill13), (0x14#8, .fill14),
     (0x15#8, .oraZpx), (0x16#8, .aslZpx), (0x17#8, .fill17), (0x18#8, .clc), (0x19#8, .oraAby),
     (0x1A#8, .fill1A), (0x1B#8, .fill1B), (0x1C#8, .fill1C), (0x1D#8, .oraAbx), (0x1E#8, .aslAbx),
     (0x1F#8, .fill1F)] = true := by decide

/-- The one-byte words 20 to 2F (R86). -/
theorem test_words_2x : oneByteWords
    [(0x20#8, .jsrAbs), (0x21#8, .andIzx), (0x22#8, .fill22), (0x23#8, .fill23), (0x24#8, .bitZp0),
     (0x25#8, .andZp0), (0x26#8, .rolZp0), (0x27#8, .fill27), (0x28#8, .plp), (0x29#8, .andImm),
     (0x2A#8, .rolAcc), (0x2B#8, .fill2B), (0x2C#8, .bitAbs), (0x2D#8, .andAbs), (0x2E#8, .rolAbs),
     (0x2F#8, .fill2F)] = true := by decide

/-- The one-byte words 30 to 3F (R86). -/
theorem test_words_3x : oneByteWords
    [(0x30#8, .bmiRel), (0x31#8, .andIzy), (0x32#8, .fill32), (0x33#8, .fill33), (0x34#8, .fill34),
     (0x35#8, .andZpx), (0x36#8, .rolZpx), (0x37#8, .fill37), (0x38#8, .sec), (0x39#8, .andAby),
     (0x3A#8, .fill3A), (0x3B#8, .fill3B), (0x3C#8, .fill3C), (0x3D#8, .andAbx), (0x3E#8, .rolAbx),
     (0x3F#8, .fill3F)] = true := by decide

/-- The one-byte words 40 to 4F (R86). -/
theorem test_words_4x : oneByteWords
    [(0x40#8, .rti), (0x41#8, .eorIzx), (0x42#8, .fill42), (0x43#8, .fill43), (0x44#8, .fill44),
     (0x45#8, .eorZp0), (0x46#8, .lsrZp0), (0x47#8, .fill47), (0x48#8, .pha), (0x49#8, .eorImm),
     (0x4A#8, .lsrAcc), (0x4B#8, .fill4B), (0x4C#8, .jmpAbs), (0x4D#8, .eorAbs), (0x4E#8, .lsrAbs),
     (0x4F#8, .fill4F)] = true := by decide

/-- The one-byte words 50 to 5F (R86). -/
theorem test_words_5x : oneByteWords
    [(0x50#8, .bvcRel), (0x51#8, .eorIzy), (0x52#8, .fill52), (0x53#8, .fill53), (0x54#8, .fill54),
     (0x55#8, .eorZpx), (0x56#8, .lsrZpx), (0x57#8, .fill57), (0x58#8, .cli), (0x59#8, .eorAby),
     (0x5A#8, .fill5A), (0x5B#8, .fill5B), (0x5C#8, .fill5C), (0x5D#8, .eorAbx), (0x5E#8, .lsrAbx),
     (0x5F#8, .fill5F)] = true := by decide

/-- The one-byte words 60 to 6F (R86). -/
theorem test_words_6x : oneByteWords
    [(0x60#8, .rts), (0x62#8, .fill62), (0x63#8, .fill63), (0x64#8, .fill64), (0x66#8, .rorZp0),
     (0x67#8, .fill67), (0x68#8, .pla), (0x6A#8, .rorAcc), (0x6B#8, .fill6B), (0x6C#8, .jmpInd),
     (0x6E#8, .rorAbs), (0x6F#8, .fill6F)] = true := by decide

/-- The one-byte words 70 to 7F (R86). -/
theorem test_words_7x : oneByteWords
    [(0x70#8, .bvsRel), (0x72#8, .fill72), (0x73#8, .fill73), (0x74#8, .fill74), (0x76#8, .rorZpx),
     (0x77#8, .fill77), (0x78#8, .sei), (0x7A#8, .fill7A), (0x7B#8, .fill7B), (0x7C#8, .fill7C),
     (0x7E#8, .rorAbx), (0x7F#8, .fill7F)] = true := by decide

/-- The one-byte words 80 to 8F (R86). -/
theorem test_words_8x : oneByteWords
    [(0x80#8, .fill80), (0x81#8, .staIzx), (0x82#8, .fill82), (0x83#8, .fill83), (0x84#8, .styZp0),
     (0x85#8, .staZp0), (0x86#8, .stxZp0), (0x87#8, .fill87), (0x88#8, .dey), (0x89#8, .fill89),
     (0x8A#8, .txa), (0x8B#8, .fill8B), (0x8C#8, .styAbs), (0x8D#8, .staAbs), (0x8E#8, .stxAbs),
     (0x8F#8, .fill8F)] = true := by decide

/-- The one-byte words 90 to 9F (R86). -/
theorem test_words_9x : oneByteWords
    [(0x90#8, .bccRel), (0x91#8, .staIzy), (0x92#8, .fill92), (0x93#8, .fill93), (0x94#8, .styZpx),
     (0x95#8, .staZpx), (0x96#8, .stxZpy), (0x97#8, .fill97), (0x98#8, .tya), (0x99#8, .staAby),
     (0x9A#8, .txs), (0x9B#8, .fill9B), (0x9C#8, .fill9C), (0x9D#8, .staAbx), (0x9E#8, .fill9E),
     (0x9F#8, .fill9F)] = true := by decide

/-- The one-byte words A0 to AF (R86). -/
theorem test_words_Ax : oneByteWords
    [(0xA0#8, .ldyImm), (0xA1#8, .ldaIzx), (0xA2#8, .ldxImm), (0xA3#8, .fillA3), (0xA4#8, .ldyZp0),
     (0xA5#8, .ldaZp0), (0xA6#8, .ldxZp0), (0xA7#8, .fillA7), (0xA8#8, .tay), (0xA9#8, .ldaImm),
     (0xAA#8, .tax), (0xAB#8, .fillAB), (0xAC#8, .ldyAbs), (0xAD#8, .ldaAbs), (0xAE#8, .ldxAbs),
     (0xAF#8, .fillAF)] = true := by decide

/-- The one-byte words B0 to BF (R86). -/
theorem test_words_Bx : oneByteWords
    [(0xB0#8, .bcsRel), (0xB1#8, .ldaIzy), (0xB2#8, .fillB2), (0xB3#8, .fillB3), (0xB4#8, .ldyZpx),
     (0xB5#8, .ldaZpx), (0xB6#8, .ldxZpy), (0xB7#8, .fillB7), (0xB8#8, .clv), (0xB9#8, .ldaAby),
     (0xBA#8, .tsx), (0xBB#8, .fillBB), (0xBC#8, .ldyAbx), (0xBD#8, .ldaAbx), (0xBE#8, .ldxAby),
     (0xBF#8, .fillBF)] = true := by decide

/-- The one-byte words C0 to CF (R86). -/
theorem test_words_Cx : oneByteWords
    [(0xC0#8, .cpyImm), (0xC1#8, .cmpIzx), (0xC2#8, .fillC2), (0xC3#8, .fillC3), (0xC4#8, .cpyZp0),
     (0xC5#8, .cmpZp0), (0xC6#8, .decZp0), (0xC7#8, .fillC7), (0xC8#8, .iny), (0xC9#8, .cmpImm),
     (0xCA#8, .dex), (0xCB#8, .fillCB), (0xCC#8, .cpyAbs), (0xCD#8, .cmpAbs), (0xCE#8, .decAbs),
     (0xCF#8, .fillCF)] = true := by decide

/-- The one-byte words D0 to DF (R86). -/
theorem test_words_Dx : oneByteWords
    [(0xD0#8, .bneRel), (0xD1#8, .cmpIzy), (0xD2#8, .fillD2), (0xD3#8, .fillD3), (0xD4#8, .fillD4),
     (0xD5#8, .cmpZpx), (0xD6#8, .decZpx), (0xD7#8, .fillD7), (0xD8#8, .cld), (0xD9#8, .cmpAby),
     (0xDA#8, .fillDA), (0xDB#8, .fillDB), (0xDC#8, .fillDC), (0xDD#8, .cmpAbx), (0xDE#8, .decAbx),
     (0xDF#8, .fillDF)] = true := by decide

/-- The one-byte words E0 to EF (R86). -/
theorem test_words_Ex : oneByteWords
    [(0xE0#8, .cpxImm), (0xE2#8, .fillE2), (0xE3#8, .fillE3), (0xE4#8, .cpxZp0), (0xE6#8, .incZp0),
     (0xE7#8, .fillE7), (0xE8#8, .inx), (0xEA#8, .nop), (0xEB#8, .fillEB), (0xEC#8, .cpxAbs),
     (0xEE#8, .incAbs), (0xEF#8, .fillEF)] = true := by decide

/-- The one-byte words F0 to FF (R86). -/
theorem test_words_Fx : oneByteWords
    [(0xF0#8, .beqRel), (0xF2#8, .fillF2), (0xF3#8, .fillF3), (0xF4#8, .fillF4), (0xF6#8, .incZpx),
     (0xF7#8, .fillF7), (0xF8#8, .sed), (0xFA#8, .fillFA), (0xFB#8, .fillFB), (0xFC#8, .fillFC),
     (0xFE#8, .incAbx), (0xFF#8, .fillFF)] = true := by decide

/-- The words of the eight ADC opcodes (R81, R85). -/
theorem test_words_adc :
    decode [0x61#8, 0xA5#8] = .ok (.adcIzx 0xA5#8, []) ∧
    decode [0x65#8, 0xA5#8] = .ok (.adcZp0 0xA5#8, []) ∧
    decode [0x69#8, 0xA5#8] = .ok (.adcImm 0xA5#8, []) ∧
    decode [0x6D#8, 0x34#8, 0x12#8] = .ok (.adcAbs 0x34#8 0x12#8, []) ∧
    decode [0x71#8, 0xA5#8] = .ok (.adcIzy 0xA5#8, []) ∧
    decode [0x75#8, 0xA5#8] = .ok (.adcZpx 0xA5#8, []) ∧
    decode [0x79#8, 0x34#8, 0x12#8] = .ok (.adcAby 0x34#8 0x12#8, []) ∧
    decode [0x7D#8, 0x34#8, 0x12#8] = .ok (.adcAbx 0x34#8 0x12#8, []) :=
  ⟨rfl, rfl, rfl, rfl, rfl, rfl, rfl, rfl⟩

/-- The encodings of the eight ADC instructions (R81, R85). -/
theorem test_encode_adc :
    encode (.adcIzx 0xA5#8) = [0x61#8, 0xA5#8] ∧
    encode (.adcZp0 0xA5#8) = [0x65#8, 0xA5#8] ∧
    encode (.adcImm 0xA5#8) = [0x69#8, 0xA5#8] ∧
    encode (.adcAbs 0x34#8 0x12#8) = [0x6D#8, 0x34#8, 0x12#8] ∧
    encode (.adcIzy 0xA5#8) = [0x71#8, 0xA5#8] ∧
    encode (.adcZpx 0xA5#8) = [0x75#8, 0xA5#8] ∧
    encode (.adcAby 0x34#8 0x12#8) = [0x79#8, 0x34#8, 0x12#8] ∧
    encode (.adcAbx 0x34#8 0x12#8) = [0x7D#8, 0x34#8, 0x12#8] :=
  ⟨rfl, rfl, rfl, rfl, rfl, rfl, rfl, rfl⟩

/-- The words of the eight SBC opcodes (R81, R85). -/
theorem test_words_sbc :
    decode [0xE1#8, 0xA5#8] = .ok (.sbcIzx 0xA5#8, []) ∧
    decode [0xE5#8, 0xA5#8] = .ok (.sbcZp0 0xA5#8, []) ∧
    decode [0xE9#8, 0xA5#8] = .ok (.sbcImm 0xA5#8, []) ∧
    decode [0xED#8, 0x34#8, 0x12#8] = .ok (.sbcAbs 0x34#8 0x12#8, []) ∧
    decode [0xF1#8, 0xA5#8] = .ok (.sbcIzy 0xA5#8, []) ∧
    decode [0xF5#8, 0xA5#8] = .ok (.sbcZpx 0xA5#8, []) ∧
    decode [0xF9#8, 0x34#8, 0x12#8] = .ok (.sbcAby 0x34#8 0x12#8, []) ∧
    decode [0xFD#8, 0x34#8, 0x12#8] = .ok (.sbcAbx 0x34#8 0x12#8, []) :=
  ⟨rfl, rfl, rfl, rfl, rfl, rfl, rfl, rfl⟩

/-- The encodings of the eight SBC instructions (R81, R85). -/
theorem test_encode_sbc :
    encode (.sbcIzx 0xA5#8) = [0xE1#8, 0xA5#8] ∧
    encode (.sbcZp0 0xA5#8) = [0xE5#8, 0xA5#8] ∧
    encode (.sbcImm 0xA5#8) = [0xE9#8, 0xA5#8] ∧
    encode (.sbcAbs 0x34#8 0x12#8) = [0xED#8, 0x34#8, 0x12#8] ∧
    encode (.sbcIzy 0xA5#8) = [0xF1#8, 0xA5#8] ∧
    encode (.sbcZpx 0xA5#8) = [0xF5#8, 0xA5#8] ∧
    encode (.sbcAby 0x34#8 0x12#8) = [0xF9#8, 0x34#8, 0x12#8] ∧
    encode (.sbcAbx 0x34#8 0x12#8) = [0xFD#8, 0x34#8, 0x12#8] :=
  ⟨rfl, rfl, rfl, rfl, rfl, rfl, rfl, rfl⟩

/-- Words of the families bit by bit: `aaabbbcc` with cc = 01, aaa = 011 is ADC and aaa = 111 is SBC, bbb the mode (R85); 00000010
is a fill byte and 11101010 the unwired NOP (R86, R87). -/
theorem test_words_bit_by_bit :
    decode [0b01101001#8, 0b00100010#8] = .ok (.adcImm 0b00100010#8, []) ∧
    decode [0b01110001#8, 0b10000110#8] = .ok (.adcIzy 0b10000110#8, []) ∧
    decode [0b11101101#8, 0b00110100#8, 0b00010010#8] = .ok (.sbcAbs 0b00110100#8 0b00010010#8, []) ∧
    decode [0b00000010#8] = .ok (.fill02, []) ∧ decode [0b11101010#8] = .ok (.nop, []) := ⟨rfl, rfl, rfl, rfl, rfl⟩

/-- A table word numbers the opcode byte's bits 7..0 and the later bytes' from bit 8 on; the bits above its width read as 0. -/
theorem test_table_words :
    decodeTableWord 24 0x123469 = some (.adcImm 0x34#8) ∧ decodeTableWord 24 0x12346D = some (.adcAbs 0x34#8 0x12#8) ∧
    decodeTableWord 8 0x12346D = some (.adcAbs 0x00#8 0x00#8) ∧ decodeTableWord 8 0x02 = some .fill02 := by decide

/-! ### One pulse: the spec's vectors -/

/-- A state at an instruction boundary at 0x0400, with the instruction's bytes and other bytes of RAM. -/
def at0400 (bytes : List Byte) (a x y p : Byte) (ram : List (Addr × Byte)) : State :=
  (ram.foldl (fun (s : State) (c : Addr × Byte) => s.place c.1 c.2)
    { State.reset with pc := 0x0400#16, a := a, x := x, y := y, p := p }).placeBytes 0x0400#16 bytes

/-- A, P, PC and the pulses left after a step, when it answers a next state. -/
def view (r : Result) : Option (Byte × Byte × Addr × Byte) :=
  match r with
  | .next t => some (t.a, t.p, t.pc, t.cycles)
  | .fault _ => none
  | .refused _ => none

/-- The reads of a step in order, when it answers a next state. -/
def reads (r : Result) : Option (List (Addr × Byte)) :=
  match r with
  | .next t => some (t.history.reverse.map fun e => (e.addr, e.value))
  | .fault _ => none
  | .refused _ => none

/-- T-OP-69 (R190): A, P, PC and the pulses left after the dispatch pulse. -/
theorem test_adcImm : view (step (at0400 [0x69#8, 0x22#8] 0x10#8 0x00#8 0x00#8 0x00#8
    [])) = some (0x32#8, 0x20#8, 0x0402#16, 1#8) := by decide

/-- T-OP-65 (R191): A, P, PC and the pulses left after the dispatch pulse. -/
theorem test_adcZp0 : view (step (at0400 [0x65#8, 0x80#8] 0x01#8 0x00#8 0x00#8 0x01#8
    [(0x0080#16, 0x01#8)])) = some (0x03#8, 0x20#8, 0x0402#16, 2#8) := by decide

/-- T-OP-75 (R192): A, P, PC and the pulses left after the dispatch pulse. -/
theorem test_adcZpx : view (step (at0400 [0x75#8, 0xF0#8] 0x7F#8 0x20#8 0x00#8 0x00#8
    [(0x0010#16, 0x01#8)])) = some (0x80#8, 0xE0#8, 0x0402#16, 3#8) := by decide

/-- T-OP-6D (R193): A, P, PC and the pulses left after the dispatch pulse. -/
theorem test_adcAbs : view (step (at0400 [0x6D#8, 0x34#8, 0x12#8] 0x01#8 0x00#8 0x00#8 0x00#8
    [(0x1234#16, 0xFF#8)])) = some (0x00#8, 0x23#8, 0x0403#16, 3#8) := by decide

/-- T-OP-7D (R194): A, P, PC and the pulses left after the dispatch pulse. -/
theorem test_adcAbx : view (step (at0400 [0x7D#8, 0xFF#8, 0x12#8] 0x05#8 0x01#8 0x00#8 0x00#8
    [(0x1300#16, 0x05#8)])) = some (0x0A#8, 0x20#8, 0x0403#16, 4#8) := by decide

/-- T-OP-79 (R195): A, P, PC and the pulses left after the dispatch pulse. -/
theorem test_adcAby : view (step (at0400 [0x79#8, 0x00#8, 0x20#8] 0x80#8 0x00#8 0xFF#8 0x00#8
    [(0x20FF#16, 0x80#8)])) = some (0x00#8, 0x63#8, 0x0403#16, 3#8) := by decide

/-- T-OP-61 (R196): A, P, PC and the pulses left after the dispatch pulse. -/
theorem test_adcIzx : view (step (at0400 [0x61#8, 0x20#8] 0x20#8 0x04#8 0x00#8 0x01#8
    [(0x0024#16, 0x74#8), (0x0025#16, 0x20#8), (0x2074#16, 0x10#8)])) = some (0x31#8, 0x20#8, 0x0402#16, 5#8) := by decide

/-- T-OP-71 (R197): A, P, PC and the pulses left after the dispatch pulse. -/
theorem test_adcIzy : view (step (at0400 [0x71#8, 0x86#8] 0xFF#8 0x00#8 0x10#8 0x00#8
    [(0x0086#16, 0x28#8), (0x0087#16, 0x40#8), (0x4038#16, 0x01#8)])) = some (0x00#8, 0x23#8, 0x0402#16, 4#8) := by decide

/-- T-OP-E9 (R200): A, P, PC and the pulses left after the dispatch pulse. -/
theorem test_sbcImm : view (step (at0400 [0xE9#8, 0x01#8] 0x00#8 0x00#8 0x00#8 0x01#8
    [])) = some (0xFF#8, 0xA0#8, 0x0402#16, 1#8) := by decide

/-- T-OP-E5 (R201): A, P, PC and the pulses left after the dispatch pulse. -/
theorem test_sbcZp0 : view (step (at0400 [0xE5#8, 0x80#8] 0x05#8 0x00#8 0x00#8 0x01#8
    [(0x0080#16, 0x05#8)])) = some (0x00#8, 0x23#8, 0x0402#16, 2#8) := by decide

/-- T-OP-F5 (R202): A, P, PC and the pulses left after the dispatch pulse. -/
theorem test_sbcZpx : view (step (at0400 [0xF5#8, 0xF0#8] 0x80#8 0x20#8 0x00#8 0x01#8
    [(0x0010#16, 0x01#8)])) = some (0x7F#8, 0x61#8, 0x0402#16, 3#8) := by decide

/-- T-OP-ED (R203): A, P, PC and the pulses left after the dispatch pulse. -/
theorem test_sbcAbs : view (step (at0400 [0xED#8, 0x34#8, 0x12#8] 0x05#8 0x00#8 0x00#8 0x01#8
    [(0x1234#16, 0x0A#8)])) = some (0xFB#8, 0xA0#8, 0x0403#16, 3#8) := by decide

/-- T-OP-FD (R204): A, P, PC and the pulses left after the dispatch pulse. -/
theorem test_sbcAbx : view (step (at0400 [0xFD#8, 0xFF#8, 0x12#8] 0x7F#8 0x01#8 0x00#8 0x01#8
    [(0x1300#16, 0xFF#8)])) = some (0x80#8, 0xE0#8, 0x0403#16, 4#8) := by decide

/-- T-OP-F9 (R205): A, P, PC and the pulses left after the dispatch pulse. -/
theorem test_sbcAby : view (step (at0400 [0xF9#8, 0x00#8, 0x20#8] 0x00#8 0x00#8 0xFF#8 0x00#8
    [(0x20FF#16, 0x00#8)])) = some (0xFF#8, 0xA0#8, 0x0403#16, 3#8) := by decide

/-- T-OP-E1 (R206): A, P, PC and the pulses left after the dispatch pulse. -/
theorem test_sbcIzx : view (step (at0400 [0xE1#8, 0x20#8] 0x30#8 0x04#8 0x00#8 0x01#8
    [(0x0024#16, 0x74#8), (0x0025#16, 0x20#8), (0x2074#16, 0x10#8)])) = some (0x20#8, 0x21#8, 0x0402#16, 5#8) := by decide

/-- T-OP-F1 (R207): A, P, PC and the pulses left after the dispatch pulse. -/
theorem test_sbcIzy : view (step (at0400 [0xF1#8, 0x86#8] 0x01#8 0x00#8 0x10#8 0x00#8
    [(0x0086#16, 0xF8#8), (0x0087#16, 0x40#8), (0x4108#16, 0x01#8)])) = some (0xFF#8, 0xA0#8, 0x0402#16, 5#8) := by decide

/-- T-FLG-1: B, D and I are kept, U is set, and the result is binary (R183, R185). -/
theorem test_adc_keeps_inert_flags : view (step (at0400 [0x69#8, 0x22#8] 0x10#8 0#8 0#8 0x1C#8 [])) =
    some (0x32#8, 0x3C#8, 0x0402#16, 1#8) := by decide

/-- T-FLG-2 and T-FLG-3: no decimal adjustment (R183). -/
theorem test_decimal_flag_inert :
    view (step (at0400 [0x69#8, 0x01#8] 0x09#8 0#8 0#8 0x08#8 [])) = some (0x0A#8, 0x28#8, 0x0402#16, 1#8) ∧
    view (step (at0400 [0xE9#8, 0x01#8] 0x10#8 0#8 0#8 0x09#8 [])) = some (0x0F#8, 0x29#8, 0x0402#16, 1#8) := by decide

/-- T-FLG-4, T-ENG-2: an idle pulse forces no U and reads nothing (R30, R161). -/
theorem test_idle_pulse :
    view (step { at0400 [0x69#8, 0x22#8] 0x10#8 0#8 0#8 0#8 [] with cycles := 3#8 }) = some (0x10#8, 0#8, 0x0400#16, 2#8) ∧
    reads (step { at0400 [0x69#8, 0x22#8] 0x10#8 0#8 0#8 0#8 [] with cycles := 3#8 }) = some [] := by decide

/-- T-SEQ-1: no dummy read on a page cross (R56). -/
theorem test_reads_adc_abx : reads (step (at0400 [0x7D#8, 0xFF#8, 0x12#8] 0#8 1#8 0#8 0#8 [(0x1300#16, 5#8)])) =
    some [(0x0400#16, 0x7D#8), (0x0401#16, 0xFF#8), (0x0402#16, 0x12#8), (0x1300#16, 5#8)] := by decide

/-- T-SEQ-3 and T-SEQ-4: the pointer pair in either order (R56, R124). -/
theorem test_reads_adc_izy :
    let s := at0400 [0x71#8, 0x86#8] 0#8 0#8 0x10#8 0#8 [(0x86#16, 0xF8#8), (0x87#16, 0x40#8), (0x4108#16, 1#8)]
    reads (step s) = some [(0x0400#16, 0x71#8), (0x0401#16, 0x86#8), (0x86#16, 0xF8#8), (0x87#16, 0x40#8), (0x4108#16, 1#8)] ∧
    reads (step { s with config := { s.config with ptrReadOrder := .hiFirst } }) =
      some [(0x0400#16, 0x71#8), (0x0401#16, 0x86#8), (0x87#16, 0x40#8), (0x86#16, 0xF8#8), (0x4108#16, 1#8)] := by decide

/-- T-SEQ-5: Immediate makes no read beyond its two bytes (R56). -/
theorem test_reads_adc_imm : reads (step (at0400 [0x69#8, 0x2A#8] 0#8 0#8 0#8 0#8 [])) =
    some [(0x0400#16, 0x69#8), (0x0401#16, 0x2A#8)] := by decide

/-- T-FIL-1: a fill byte changes PC, U and the cycle counter alone (R220). -/
theorem test_fill02 : view (step (at0400 [0x02#8] 0x77#8 0#8 0#8 0#8 [])) = some (0x77#8, 0x20#8, 0x0401#16, 1#8) ∧
    reads (step (at0400 [0x02#8] 0x77#8 0#8 0#8 0#8 [])) = some [(0x0400#16, 0x02#8)] := by decide

/-- T-FIL-2: PC wraps from 0xFFFF to 0 (R220). -/
theorem test_fillFF_wraps : (match step (State.place { State.reset with pc := 0xFFFF#16 } 0xFFFF#16 0xFF#8) with
    | .next t => t.pc == 0#16
    | _ => false) = true := by decide

/-- T-FIL-3: 0xEB is no SBC here (R220, I5). -/
theorem test_fillEB : view (step (at0400 [0xEB#8, 0x01#8] 5#8 0#8 0#8 1#8 [])) = some (5#8, 0x21#8, 0x0401#16, 1#8) := by
  decide

/-- The opcode and address a step refuses, with the PC, P, cycle counter and mark of the state it leaves. -/
def refusalView (r : Result) : Option (Byte × Addr × Addr × Byte × Byte × Bool) :=
  match r with
  | .refused (.unwiredOpcode op addr t) => some (op, addr, t.pc, t.p, t.cycles, t.refused)
  | _ => none

/-- T-UNW-1 and T-UNW-2: PC one past, P not forced, the mark set (R160, R166, R222). -/
theorem test_unwired :
    refusalView (step (at0400 [0xEA#8] 0#8 0#8 0#8 0#8 [])) = some (0xEA#8, 0x0400#16, 0x0401#16, 0#8, 0#8, true) ∧
    refusalView (step (at0400 [0x18#8] 0#8 0#8 0#8 1#8 [])) = some (0x18#8, 0x0400#16, 0x0401#16, 1#8, 0#8, true) := by
  constructor <;> rfl

/-- T-UNW-3: no pulse after a refusal (R166). -/
theorem test_no_pulse_after_refusal : step { State.reset with refused := true } = .refused .noFurtherPulse := rfl

/-- What the host stores with `withFetchWord` is what the very next pulse runs (R80). -/
theorem test_withFetchWord :
    view (step (State.reset.withFetchWord 16 0x2269)) = some (0x22#8, 0x20#8, 2#16, 1#8) := by decide

/-! ### The adder and the operand forms -/

/-- A, m and C in; A, C, Z, V and N out: whether an effect gives the outputs from the inputs. -/
def aluVector (f : State → Byte → State) (v : Byte × Byte × Bool × Byte × Bool × Bool × Bool × Bool) : Bool :=
  match v with
  | (a, m, c, r, c', z, o, n) =>
    let t := f (({ State.reset with a := a } : State).setFlag .C c) m
    t.a == r && t.flag .C == c' && t.flag .Z == z && t.flag .V == o && t.flag .N == n

/-- T-ADC-1 to T-ADC-13 (R184). -/
theorem test_adc_vectors :
    [(0x10#8, 0x22#8, false, 0x32#8, false, false, false, false),
     (0x7F#8, 0x0A#8, false, 0x89#8, false, false, true, true),
     (0xFA#8, 0x0A#8, false, 0x04#8, true, false, false, false),
     (0x80#8, 0x80#8, false, 0x00#8, true, true, true, false),
     (0x7F#8, 0x00#8, true, 0x80#8, false, false, true, true),
     (0xFF#8, 0xFF#8, true, 0xFF#8, true, false, false, true),
     (0xFF#8, 0x01#8, false, 0x00#8, true, true, false, false),
     (0x50#8, 0x50#8, false, 0xA0#8, false, false, true, true),
     (0xD0#8, 0x90#8, false, 0x60#8, true, false, true, false),
     (0x00#8, 0x00#8, false, 0x00#8, false, true, false, false),
     (0x7F#8, 0x7F#8, true, 0xFF#8, false, false, true, true),
     (0x80#8, 0xFF#8, false, 0x7F#8, true, false, true, false),
     (0x01#8, 0xFF#8, false, 0x00#8, true, true, false, false)].all (aluVector State.adcWrite) = true := by decide

/-- T-SBC-1 to T-SBC-11 (R186). -/
theorem test_sbc_vectors :
    [(0x05#8, 0x0A#8, true, 0xFB#8, false, false, false, true),
     (0x05#8, 0x05#8, true, 0x00#8, true, true, false, false),
     (0x80#8, 0x01#8, true, 0x7F#8, true, false, true, false),
     (0x7F#8, 0xFF#8, true, 0x80#8, false, false, true, true),
     (0x00#8, 0x00#8, false, 0xFF#8, false, false, false, true),
     (0x00#8, 0x01#8, true, 0xFF#8, false, false, false, true),
     (0x50#8, 0xB0#8, true, 0xA0#8, false, false, true, true),
     (0xFF#8, 0xFF#8, true, 0x00#8, true, true, false, false),
     (0x00#8, 0x80#8, true, 0x80#8, false, false, true, true),
     (0x80#8, 0x00#8, false, 0x7F#8, true, false, true, false),
     (0x7F#8, 0x80#8, true, 0xFF#8, false, false, true, true)].all (aluVector State.sbcWrite) = true := by decide

/-- The signal, `absAddr`, `relAddr`, `fetched` and PC after a resolver. -/
def resolverView (r : Bool × State) : Bool × Addr × Addr × Byte × Addr :=
  (r.1, r.2.absAddr, r.2.relAddr, r.2.fetched, r.2.pc)

/-- A state whose operand bytes stand at 0x0401, where PC is. -/
def at0401 (bytes : List Byte) (x y : Byte) (ram : List (Addr × Byte)) : State :=
  { at0400 (0x02#8 :: bytes) 0#8 x y 0#8 ram with pc := 0x0401#16 }

/-- T-IMP-1 (R111). -/
theorem test_resolve_imp :
    resolverView (resolve .imp (at0401 [] 0x00#8 0x00#8
      [])) = (false, 0x0401#16, 0x0000#16, 0x00#8, 0x0401#16) := by decide

/-- T-IMM-1 (R112). -/
theorem test_resolve_imm :
    resolverView (resolve .imm (at0401 [0x2A#8] 0x00#8 0x00#8
      [])) = (false, 0x0000#16, 0x0000#16, 0x2A#8, 0x0402#16) := by decide

/-- T-ZP0-1 (R113). -/
theorem test_resolve_zp0 :
    resolverView (resolve .zp0 (at0401 [0x80#8] 0x00#8 0x00#8
      [])) = (false, 0x0080#16, 0x0000#16, 0x00#8, 0x0402#16) := by decide

/-- T-ZPX-1, T-ZPX-2, T-ZPX-3 (R114). -/
theorem test_resolve_zpx :
    resolverView (resolve .zpx (at0401 [0x10#8] 0x05#8 0x00#8
      [])) = (false, 0x0015#16, 0x0000#16, 0x00#8, 0x0402#16) ∧
    resolverView (resolve .zpx (at0401 [0xF0#8] 0x20#8 0x00#8
      [])) = (false, 0x0010#16, 0x0000#16, 0x00#8, 0x0402#16) ∧
    resolverView (resolve .zpx (at0401 [0xFF#8] 0xFF#8 0x00#8
      [])) = (false, 0x00FE#16, 0x0000#16, 0x00#8, 0x0402#16) := by decide

/-- T-ZPY-1 (R115). -/
theorem test_resolve_zpy :
    resolverView (resolve .zpy (at0401 [0xFF#8] 0x00#8 0x01#8
      [])) = (false, 0x0000#16, 0x0000#16, 0x00#8, 0x0402#16) := by decide

/-- T-REL-1, T-REL-2, T-REL-3, T-REL-4 (R116). -/
theorem test_resolve_rel :
    resolverView (resolve .rel (at0401 [0x50#8] 0x00#8 0x00#8
      [])) = (false, 0x0000#16, 0x0050#16, 0x00#8, 0x0402#16) ∧
    resolverView (resolve .rel (at0401 [0x90#8] 0x00#8 0x00#8
      [])) = (false, 0x0000#16, 0xFF90#16, 0x00#8, 0x0402#16) ∧
    resolverView (resolve .rel (at0401 [0x7F#8] 0x00#8 0x00#8
      [])) = (false, 0x0000#16, 0x007F#16, 0x00#8, 0x0402#16) ∧
    resolverView (resolve .rel (at0401 [0x80#8] 0x00#8 0x00#8
      [])) = (false, 0x0000#16, 0xFF80#16, 0x00#8, 0x0402#16) := by decide

/-- T-ABS-1 (R117). -/
theorem test_resolve_abs :
    resolverView (resolve .abs (at0401 [0x34#8, 0x12#8] 0x00#8 0x00#8
      [])) = (false, 0x1234#16, 0x0000#16, 0x00#8, 0x0403#16) := by decide

/-- T-ABX-1, T-ABX-2, T-ABX-3, T-ABX-4 (R118). -/
theorem test_resolve_abx :
    resolverView (resolve .abx (at0401 [0xFF#8, 0x12#8] 0x01#8 0x00#8
      [])) = (true, 0x1300#16, 0x0000#16, 0x00#8, 0x0403#16) ∧
    resolverView (resolve .abx (at0401 [0x00#8, 0x12#8] 0xFF#8 0x00#8
      [])) = (false, 0x12FF#16, 0x0000#16, 0x00#8, 0x0403#16) ∧
    resolverView (resolve .abx (at0401 [0xFF#8, 0xFF#8] 0x01#8 0x00#8
      [])) = (true, 0x0000#16, 0x0000#16, 0x00#8, 0x0403#16) ∧
    resolverView (resolve .abx (at0401 [0x80#8, 0x12#8] 0x00#8 0x00#8
      [])) = (false, 0x1280#16, 0x0000#16, 0x00#8, 0x0403#16) := by decide

/-- T-ABY-1, T-ABY-2 (R119). -/
theorem test_resolve_aby :
    resolverView (resolve .aby (at0401 [0x00#8, 0x20#8] 0x00#8 0xFF#8
      [])) = (false, 0x20FF#16, 0x0000#16, 0x00#8, 0x0403#16) ∧
    resolverView (resolve .aby (at0401 [0x01#8, 0x20#8] 0x00#8 0xFF#8
      [])) = (true, 0x2100#16, 0x0000#16, 0x00#8, 0x0403#16) := by decide

/-- T-IND-1, T-IND-2, T-IND-3 (R120). -/
theorem test_resolve_ind :
    resolverView (resolve .ind (at0401 [0xFF#8, 0xCA#8] 0x00#8 0x00#8
      [(0xCAFF#16, 0xEF#8), (0xCA00#16, 0xBE#8), (0xCB00#16, 0x11#8)])) = (false, 0xBEEF#16, 0x0000#16, 0x00#8, 0x0403#16) ∧
    resolverView (resolve .ind (at0401 [0x00#8, 0x30#8] 0x00#8 0x00#8
      [(0x3000#16, 0x34#8), (0x3001#16, 0x12#8)])) = (false, 0x1234#16, 0x0000#16, 0x00#8, 0x0403#16) ∧
    resolverView (resolve .ind (at0401 [0xFF#8, 0xFF#8] 0x00#8 0x00#8
      [(0xFFFF#16, 0x00#8), (0xFF00#16, 0x90#8), (0x0000#16, 0x55#8)])) = (false, 0x9000#16, 0x0000#16, 0x00#8, 0x0403#16) := by decide

/-- T-IZX-1, T-IZX-2, T-IZX-3 (R121). -/
theorem test_resolve_izx :
    resolverView (resolve .izx (at0401 [0x20#8] 0x04#8 0x00#8
      [(0x0024#16, 0x74#8), (0x0025#16, 0x20#8)])) = (false, 0x2074#16, 0x0000#16, 0x00#8, 0x0402#16) ∧
    resolverView (resolve .izx (at0401 [0xFE#8] 0x01#8 0x00#8
      [(0x00FF#16, 0x34#8), (0x0000#16, 0x12#8)])) = (false, 0x1234#16, 0x0000#16, 0x00#8, 0x0402#16) ∧
    resolverView (resolve .izx (at0401 [0xF0#8] 0x20#8 0x00#8
      [(0x0010#16, 0x00#8), (0x0011#16, 0x40#8)])) = (false, 0x4000#16, 0x0000#16, 0x00#8, 0x0402#16) := by decide

/-- T-IZY-1, T-IZY-2, T-IZY-3 (R122). -/
theorem test_resolve_izy :
    resolverView (resolve .izy (at0401 [0x86#8] 0x00#8 0x10#8
      [(0x0086#16, 0x28#8), (0x0087#16, 0x40#8)])) = (false, 0x4038#16, 0x0000#16, 0x00#8, 0x0402#16) ∧
    resolverView (resolve .izy (at0401 [0x86#8] 0x00#8 0x10#8
      [(0x0086#16, 0xF8#8), (0x0087#16, 0x40#8)])) = (true, 0x4108#16, 0x0000#16, 0x00#8, 0x0402#16) ∧
    resolverView (resolve .izy (at0401 [0xFF#8] 0x00#8 0x10#8
      [(0x00FF#16, 0xF0#8), (0x0000#16, 0xFF#8)])) = (true, 0x0000#16, 0x0000#16, 0x00#8, 0x0402#16) := by decide

/-- T-IMM-2 and T-ABS-2: operand bytes across the top of the address space (R31, R89). -/
theorem test_resolve_wraps :
    let s := (State.reset.placeBytes 0xFFFF#16 [0x00#8, 0x80#8]).setPC 0xFFFF#16
    resolverView (resolve .abs s) = (false, 0x8000#16, 0#16, 0#8, 1#16) ∧ (resolve .imm s).2.pc = 0#16 := by decide

/-- T-FET-3: materialization under Relative with nothing cached is a fault (R131, D24). -/
theorem test_relative_materialization : fetchOperand .rel State.reset = .error .unresolvedAbsAddr := rfl

/-! ### The hypotheses of the obligations are met -/

/-- The 3 bytes `6D 34 12` at 0xFFFE, across the top of the address space. -/
def wrapState : State := (State.reset.placeBytes 0xFFFE#16 [0x6D#8, 0x34#8, 0x12#8]).setPC 0xFFFE#16

/-- One RAM byte at PC = 0xFFFF. -/
def byteState (b : Byte) : State := (State.reset.place 0xFFFF#16 b).setPC 0xFFFF#16

theorem witness_EncodingRoundTrips : (Instr.sbcAbx 0xFF#8 0x00#8).wellFormed = true := rfl

theorem witness_DecodedBytesAreTheEncoding : decode [0xFD#8, 0xFF#8, 0x00#8, 0x02#8] = .ok (.sbcAbx 0xFF#8 0x00#8, [0x02#8]) := rfl

theorem witness_DecodingFailsOnlyForMissingBytes : ∃ e, decode [0x6D#8, 0x00#8] = .error e := ⟨_, rfl⟩

theorem witness_EveryByteIsInOneClass : 0x61#8 ∈ wiredOpcodes ∧ 0x00#8 ∈ unwiredOpcodes ∧ 0xFF#8 ∈ illegalOpcodes := by decide

theorem witness_StepRunsDecodedInstruction : wrapState.refused = false ∧ wrapState.cycles = 0#8 ∧
    HoldsAt wrapState wrapState.pc [0x6D#8, 0x34#8, 0x12#8] ∧
    decode [0x6D#8, 0x34#8, 0x12#8] = .ok (.adcAbs 0x34#8 0x12#8, []) ∧ (Instr.adcAbs 0x34#8 0x12#8).wellFormed = true := by
  refine ⟨rfl, rfl, ?_, rfl, rfl⟩
  intro k b h
  match k, h with
  | 0, h => cases h; decide
  | 1, h => cases h; decide
  | 2, h => cases h; decide

theorem witness_boundary : State.reset.refused = false ∧ State.reset.cycles = 0#8 ∧ State.reset.fetchValid = false ∧
    State.reset.flag .C = false := by decide

theorem witness_IdlePulseOnlyDecrements :
    (∃ s : State, s.refused = false ∧ s.cycles.toNat = 1) ∧ ∃ s : State, s.refused = false ∧ s.cycles.toNat = 254 :=
  ⟨⟨{ State.reset with cycles := 1#8 }, rfl, rfl⟩, ⟨{ State.reset with cycles := 254#8 }, rfl, rfl⟩⟩

theorem witness_RefusedStateHasNoPulse : ∃ s : State, s.refused = true := ⟨{ State.reset with refused := true }, rfl⟩

theorem witness_UnwiredInstructionIsRefused : Instr.brk ∈ unwiredInstrs ∧ Instr.incAbx ∈ unwiredInstrs := by decide

theorem witness_FillResult : Instr.fill02 ∈ fillInstrs ∧ Instr.fillFF ∈ fillInstrs := by decide

theorem witness_UnwiredOpcodePulse : (byteState 0xFE#8).refused = false ∧ (byteState 0xFE#8).cycles = 0#8 ∧
    (byteState 0xFE#8).mem.get (byteState 0xFE#8).pc.toNat = some 0xFE#8 ∧ 0xFE#8 ∈ unwiredOpcodes := by decide

/-- For the statements about a next state: a dispatch pulse and an idle pulse that answer one. -/
theorem witness_next_state :
    (∃ s t : State, step s = .next t ∧ s.cycles = 0#8) ∧ ∃ s t : State, step s = .next t ∧ s.cycles = 254#8 :=
  ⟨⟨byteState 0x02#8, _, rfl, rfl⟩, ⟨{ State.reset with cycles := 254#8 }, _, rfl, rfl⟩⟩

/-- For InstructionOccupiesItsPulses: a dispatch with the extra cycle, whose idle pulses k run from 0 to 4. -/
theorem witness_InstructionOccupiesItsPulses : ∃ s t : State, s.cycles = 0#8 ∧ step s = .next t ∧ 4 ≤ t.cycles.toNat :=
  ⟨at0400 [0x7D#8, 0xFF#8, 0x12#8] 5#8 1#8 0#8 0#8 [(0x1300#16, 5#8)], _, rfl, rfl, by decide⟩

theorem witness_InertFlagsHaveNoEffect : ∀ f : Machine.Flag, f = .D → (f = .I ∨ f = .D ∨ f = .B) := fun _ h => .inr (.inl h)

theorem witness_RefusalEndsTheRun : ∃ op addr left, step (byteState 0xEA#8) = .refused (.unwiredOpcode op addr left) :=
  ⟨_, _, _, rfl⟩

/-- For HiddenRegistersHaveNoEffect: a next state, a refusal and an idle pulse from an unrefused state. -/
theorem witness_HiddenRegistersHaveNoEffect :
    ((byteState 0x02#8).refused = false ∧ (byteState 0x02#8).cycles = 0#8 ∧ ∃ t, step (byteState 0x02#8) = .next t) ∧
    ((byteState 0x00#8).refused = false ∧ (byteState 0x00#8).cycles = 0#8 ∧
      ∃ op addr left, step (byteState 0x00#8) = .refused (.unwiredOpcode op addr left)) ∧
    ∃ s : State, s.refused = false ∧ s.cycles ≠ 0#8 :=
  ⟨⟨rfl, rfl, _, rfl⟩, ⟨rfl, rfl, _, _, _, rfl⟩, { State.reset with cycles := 1#8 }, rfl, by decide⟩

/-- For CostsDecideNoData: another configuration, with every cost 254 and the same read order. -/
theorem witness_CostsDecideNoData : State.reset.cycles = 0#8 ∧
    ∃ cfg : Config, cfg.ptrReadOrder = State.reset.config.ptrReadOrder ∧ cfg ≠ State.reset.config :=
  ⟨rfl, { defaultConfig with adc := { defaultConfig.adc with imm := costOfNat 254 } }, rfl, by decide⟩

theorem witness_InvariantKeptByEveryPulse : RunInvariant (byteState 0xFF#8) ∧ ∃ t, step (byteState 0xFF#8) = .next t :=
  ⟨⟨rfl, rfl, fun h => absurd rfl h, rfl, by decide, fun _ h => absurd h (List.not_mem_nil)⟩, _, rfl⟩

/-- For InvariantKeptByEveryPulse: a state in flight whose one read was of declared RAM, at the largest counter. -/
theorem witness_InvariantKeptByEveryPulse_idle :
    let s : State := { byteState 0xFF#8 with p := 0x20#8, cycles := 254#8, history := [⟨0xFFFF#16, 0xFF#8⟩], reads := 1 }
    RunInvariant s ∧ ∃ t, step s = .next t := by
  refine ⟨⟨rfl, rfl, fun _ => rfl, rfl, by decide, ?_⟩, _, rfl⟩
  intro e he w hw
  rw [List.mem_singleton] at he
  subst he
  cases hw
  rfl

/-- For the results of the memory forms: RAM under every byte the form reads, at the ends of page 0 and of the address space. -/
theorem witness_memory_forms :
    let s := { wrapState with fetchValid := false, x := 0xFF#8, y := 0xFF#8 }
    s.fetchValid = false ∧ RamLaw s 0xFFFF#16 0x34#8 ∧ RamLaw s 0#16 0x12#8 := by
  refine ⟨rfl, ?_, ?_⟩ <;> intro w h <;> cases h <;> rfl

theorem witness_MaterializationReadsOnce :
    (∃ s : State, s.fetchValid = true) ∧ State.reset.fetchValid = false ∧ Mode.zp0 ≠ .imm ∧ Mode.zp0 ≠ .rel ∧
    ∃ m t, fetchOperand .zp0 State.reset = .ok (m, t) :=
  ⟨⟨{ State.reset with fetchValid := true }, rfl⟩, rfl, nofun, nofun, _, _, rfl⟩

theorem witness_PointerOrderIsInvisibleInRam : wrapState.mem.get (0xFFFF#16).toNat = some 0x34#8 ∧
    wrapState.mem.get (0#16).toNat = some 0x12#8 := by decide

theorem witness_HostChangesDuringIdlePulses : (∃ s : State, s.refused = false ∧ s.cycles ≠ 0#8) ∧
    (byteState 0x02#8).refused = false ∧ (byteState 0x02#8).cycles = 0#8 ∧
    (byteState 0x02#8).mem.get (byteState 0x02#8).pc.toNat ≠ none :=
  ⟨⟨{ State.reset with cycles := 1#8 }, rfl, by decide⟩, rfl, rfl, by decide⟩

theorem witness_RamReturnsTheLastByte : wrapState.mem.get (0xFFFF#16).toNat = some 0x34#8 ∧
    wrapState.mem.get (1#16).toNat = none ∧ 1#16 ≠ 0xFFFF#16 := by decide

theorem witness_CanonicalMemoryIsUnique :
    let m : Memory := [(0, 1#8), (65535, 2#8)]
    m.wf = true ∧ ∀ addr : Addr, m.get addr.toNat = m.get addr.toNat := ⟨by decide, fun _ => rfl⟩

theorem witness_ConfigurationCheckedAtConstruction :
    (∃ cfg, Config.build (fun _ => 254) (fun _ => 1) .hiFirst = .ok cfg) ∧
    ¬ ∃ cfg, Config.build (fun _ => 255) (fun _ => 1) .hiFirst = .ok cfg := by
  refine ⟨⟨_, rfl⟩, ?_⟩
  rintro ⟨cfg, h⟩
  cases h

end Sys2Proof.Tests
end

section
/-! The statements about the state of 10_state.md: what every pulse keeps, and what no pulse depends on. A next state is taken
apart once (`step_next_run`, `runEntry_eq_next`), a change of P or SP is carried through a pulse once (`step_editStatus`), and the
obligations are settled from these. -/

namespace Sys2Proof.Machine

open Claims

/-! ### What a completed dispatch is -/

/-- Operand materialization that completes leaves the state as it was, or after its one data read. -/
theorem fetchOperand_ok {mode : Mode} {s : State} {r : Byte × State} (h : fetchOperand mode s = .ok r) :
    r.2 = s ∨ r.2 = s.materialize.2 := by
  rcases fetchOperand_cases mode s with hf | hf | ⟨-, hf⟩ <;> rw [hf] at h <;> cases h
  · exact .inl rfl
  · exact .inr rfl

/-- An operation that completes makes at most the one data read, and then at most writes the adder's results. -/
theorem operate_ok {op : Operation} {mode : Mode} {s : State} {q : Bool × State} (h : operate op mode s = .ok q) :
    ∃ m, (m = s ∨ m = s.materialize.2) ∧ (q.2 = m ∨ ∃ sum, q.2 = m.writeSum sum) := by
  cases op with
  | fill => cases h; exact ⟨s, .inl rfl, .inl rfl⟩
  | adc =>
    simp only [operate, opAdc] at h
    split at h <;> cases h
    rename_i r hr
    exact ⟨r.2, fetchOperand_ok hr, .inr ⟨_, rfl⟩⟩
  | sbc =>
    simp only [operate, opSbc] at h
    split at h <;> cases h
    rename_i r hr
    exact ⟨r.2, fetchOperand_ok hr, .inr ⟨_, rfl⟩⟩

/-- Steps 4 to 11 of a dispatch pulse that completes (R160): the resolver, at most the one data read, at most one write of the
adder's results, and the end of the entry. -/
theorem runEntry_eq_next {op : Operation} {o : Operand} {base : Cost} {s t : State} (h : runEntry op o base s = .next t) :
    ∃ m u sigA sigB,
      (m = (resolveOperand o (s.beginEntry base)).2 ∨ m = (resolveOperand o (s.beginEntry base)).2.materialize.2) ∧
      (u = m ∨ ∃ sum, u = m.writeSum sum) ∧ t = u.endEntry sigA sigB := by
  unfold runEntry finishEntry at h
  split at h <;> cases h
  rename_i q hq
  obtain ⟨m, hm, hu⟩ := operate_ok hq
  exact ⟨m, q.2, _, q.1, hm, hu, rfl⟩

/-- A pulse that answers a next state is an idle pulse, or the dispatch of an opcode whose table entry runs (R160, R161). -/
theorem step_next_run {s t : State} (h : step s = .next t) :
    s.refused = false ∧ ((s.cycles ≠ 0#8 ∧ t = s.tick) ∨ (s.cycles = 0#8 ∧ ∃ mnemonic op o base,
      table s.config (s.portAnswer s.pc) = .run mnemonic op (operandMode o) base ∧
      runEntry op o base (fetchInstr s).2 = .next t)) := by
  obtain ⟨hr, hidle | ⟨hc, he⟩⟩ := step_next_cases h
  · exact ⟨hr, .inl hidle⟩
  · refine ⟨hr, .inr ⟨hc, ?_⟩⟩
    rcases exec_cases (fetchInstr s).1 (fetchInstr s).2 with ⟨mnemonic, op, o, base, ht, -, hx⟩ | ⟨_, -, hx⟩
    · rw [fetchInstr_config, fetchInstr_opcode] at ht
      exact ⟨mnemonic, op, o, base, ht, hx ▸ he⟩
    · rw [hx] at he; cases he

/-! ### What a dispatch keeps -/

section
variable {op : Operation} {o : Operand} {base : Cost} {s t : State} (h : runEntry op o base s = .next t)
include h

/-- An entry that runs keeps every register but A and P, the mark, the configuration and memory. -/
theorem runEntry_frame : Frame s t := by
  obtain ⟨m, u, sigA, sigB, rfl | rfl, rfl | ⟨sum, rfl⟩, rfl⟩ := runEntry_eq_next h <;> constructor <;> simp

/-- An entry that runs leaves U set (R30). -/
theorem runEntry_unused : t.flag .U = true := by
  obtain ⟨_, _, _, _, -, -, rfl⟩ := runEntry_eq_next h
  simp

/-- An entry that runs keeps I, D and B (R27 to R29). -/
theorem runEntry_hostFlag {f : Flag} (hf : f = .I ∨ f = .D ∨ f = .B) : t.flag f = s.flag f := by
  obtain ⟨m, u, sigA, sigB, hm, hu, rfl⟩ := runEntry_eq_next h
  have hmf : m.flag f = (s.beginEntry base).flag f := by
    rcases hm with rfl | rfl <;> exact flag_congr (by simp) f
  rcases hf with rfl | rfl | rfl <;> rcases hu with rfl | ⟨sum, rfl⟩ <;> simpa using hmf

/-- An entry that runs leaves a cycle counter of at most 254: its cost, the extra cycle, less one (R35, D19). -/
theorem runEntry_cycles_le : t.cycles.toNat ≤ 254 := by
  obtain ⟨m, u, sigA, sigB, hm, hu, rfl⟩ := runEntry_eq_next h
  have hc : u.cycles = base.value := by
    rcases hm with rfl | rfl <;> rcases hu with rfl | ⟨sum, rfl⟩ <;> simp
  obtain ⟨hlo, hhi⟩ := base.inRange
  rw [endEntry_cycles, hc]
  cases sigA && sigB <;> simp <;> bv_omega

end

/-! ### Reads under the RAM law -/

/-- Between two states memory is untouched, and what was read is recorded, counted and an answer the port may give (R52, R56). -/
structure LawfulReads (s t : State) : Prop where
  memory : t.mem = s.mem
  events : ∃ events, Reads s t events ∧ ∀ e ∈ events, RamLaw s e.addr e.value

theorem LawfulReads.none {s t : State} (hm : t.mem = s.mem) (hh : t.history = s.history) (hr : t.reads = s.reads) :
    LawfulReads s t :=
  ⟨hm, [], ⟨hh, hr⟩, by simp⟩

theorem LawfulReads.trans {s t u : State} (h : LawfulReads s t) (k : LawfulReads t u) : LawfulReads s u := by
  obtain ⟨hm, es, ⟨hh, hr⟩, hl⟩ := h
  obtain ⟨km, fs, ⟨kh, kr⟩, kl⟩ := k
  refine ⟨km.trans hm, es ++ fs, ⟨by simp [kh, hh], by simp [kr, hr, Nat.add_assoc]⟩, fun e he => ?_⟩
  rcases List.mem_append.1 he with he | he
  · exact hl e he
  · exact (ramLaw_congr hm).1 (kl e he)

theorem memRead_lawful (s : State) (addr : Addr) : LawfulReads s (s.memRead addr).2 :=
  ⟨rfl, [⟨addr, s.portAnswer addr⟩], ⟨rfl, rfl⟩, by simpa using portAnswer_ramLaw s addr⟩

theorem fetchNext_lawful (s : State) : LawfulReads s s.fetchNext.2 :=
  (memRead_lawful s s.pc).trans (.none rfl rfl rfl)

theorem fetchInstr_lawful (s : State) : LawfulReads s (fetchInstr s).2 := by
  have hop : LawfulReads s s.fetchOpcode.2 := (fetchNext_lawful s).trans (.none rfl rfl rfl)
  unfold fetchInstr
  simp only []
  split
  · exact hop
  · exact hop.trans (fetchNext_lawful _)
  · exact (hop.trans (fetchNext_lawful _)).trans (fetchNext_lawful _)

theorem read16pair_lawful (s : State) (aLo aHi : Addr) : LawfulReads s (s.read16pair aLo aHi).2 := by
  cases h : s.config.ptrReadOrder
  · rw [read16pair_loFirst h]; exact (memRead_lawful s aLo).trans (memRead_lawful _ aHi)
  · rw [read16pair_hiFirst h]; exact (memRead_lawful s aHi).trans (memRead_lawful _ aLo)

theorem resolveOperand_lawful (o : Operand) (s : State) : LawfulReads s (resolveOperand o s).2 := by
  cases o with
  | ind lo hi => exact (read16pair_lawful s _ _).trans (.none rfl rfl rfl)
  | izx zp8 => exact (read16pair_lawful s _ _).trans (.none rfl rfl rfl)
  | izy zp8 => exact (read16pair_lawful s _ _).trans (.none rfl rfl rfl)
  | _ => exact .none rfl rfl rfl

/-- Whatever an entry that runs reads, it reads under the RAM law. -/
theorem runEntry_lawful {op : Operation} {o : Operand} {base : Cost} {s t : State} (h : runEntry op o base s = .next t) :
    LawfulReads s t := by
  have hr : LawfulReads s (resolveOperand o (s.beginEntry base)).2 :=
    LawfulReads.trans (t := s.beginEntry base) (.none rfl rfl rfl) (resolveOperand_lawful o _)
  obtain ⟨m, u, sigA, sigB, hm, hu, rfl⟩ := runEntry_eq_next h
  have hmr : LawfulReads s m := by
    rcases hm with rfl | rfl
    · exact hr
    · exact hr.trans ((memRead_lawful _ _).trans (.none rfl rfl rfl))
  rcases hu with rfl | ⟨sum, rfl⟩ <;> exact hmr.trans (.none rfl rfl rfl)

/-- Lawful reads keep the count of the recorded reads. -/
theorem LawfulReads.counted {s t : State} (h : LawfulReads s t) (hs : s.reads = s.history.length) :
    t.reads = t.history.length := by
  obtain ⟨-, es, ⟨hh, hr⟩, -⟩ := h
  simp [hh, hr, hs, Nat.add_comm]

/-- Lawful reads keep that every recorded read obeys the RAM law. -/
theorem LawfulReads.answered {s t : State} (h : LawfulReads s t) (hs : ∀ e ∈ s.history, RamLaw s e.addr e.value) :
    ∀ e ∈ t.history, RamLaw t e.addr e.value := by
  obtain ⟨hm, es, ⟨hh, -⟩, hl⟩ := h
  intro e he
  rw [ramLaw_congr hm]
  rw [hh, List.mem_append, List.mem_reverse] at he
  exact he.elim (hl e) (hs e)

/-! ### P as its flags -/

/-- The bits of a byte, from the lowest up, weigh 1, 2, 4 and so on. -/
theorem toNat_eq_sum_flags (s : State) : s.p.toNat =
    128 * (s.flag .N).toNat + 64 * (s.flag .V).toNat + 32 * (s.flag .U).toNat + 16 * (s.flag .B).toNat +
    8 * (s.flag .D).toNat + 4 * (s.flag .I).toNat + 2 * (s.flag .Z).toNat + (s.flag .C).toNat := by
  have hlt := s.p.isLt
  have hbit (f : Flag) : (s.flag f).toNat = s.p.toNat / 2 ^ flagPos f % 2 := Nat.toNat_testBit _ _
  simp only [hbit, flagPos]
  omega

/-- Every bit of P is a flag, so the whole of P written is the byte written. -/
theorem setP_p (s : State) (v : Byte) : (s.setP v).p = v := by
  have hflag : ∀ i < 8, ∃ f, flagPos f = i := by
    intro i hi
    interval_cases i
    exacts [⟨.C, rfl⟩, ⟨.Z, rfl⟩, ⟨.I, rfl⟩, ⟨.D, rfl⟩, ⟨.B, rfl⟩, ⟨.U, rfl⟩, ⟨.V, rfl⟩, ⟨.N, rfl⟩]
  apply BitVec.eq_of_getLsbD_eq
  intro i hi
  obtain ⟨f, rfl⟩ := hflag i hi
  exact flag_setP s v f

/-! ### The length of an instruction -/

/-- The decoder takes as many bytes as the opcode's table entry is long (R82). -/
theorem entryLength_table (cfg : Config) (opcode : Byte) : entryLength (table cfg opcode) = 1 + operandCount opcode := by
  refine forall_byte (P := fun b => entryLength (table cfg b) = 1 + operandCount b) (fun n hn => ?_) opcode
  interval_cases n <;> rfl

/-! ### Changes of P and SP that no pulse sees -/

/-- The flags an instruction writes (R30, R184, R186). -/
def instrFlags : List Flag := [.C, .Z, .U, .V, .N]

/-- A change of P that keeps the carry and passes over every flag write of an instruction. -/
structure Unseen (h : Byte → Byte) : Prop where
  carry : ∀ p, (h p).getLsbD 0 = p.getLsbD 0
  passes : ∀ f ∈ instrFlags, ∀ p b, setBit (h p) (flagPos f) b = h (setBit p (flagPos f) b)

/-- Leaving P alone is unseen: an edit may change SP alone. -/
theorem unseen_id : Unseen id := ⟨fun _ => rfl, fun _ _ _ _ => rfl⟩

/-- Writing I, D or B is unseen. -/
theorem unseen_setBit {f : Flag} (hf : f = .I ∨ f = .D ∨ f = .B) (b : Bool) : Unseen fun p => setBit p (flagPos f) b := by
  have hne : ∀ g ∈ instrFlags, flagPos g ≠ flagPos f := by
    rcases hf with rfl | rfl | rfl <;> decide
  exact ⟨fun p => (getLsbD_setBit _ _ _ _ (flagPos_lt f)).trans (if_neg (hne .C (by decide))),
    fun g hg p c => setBit_comm p (flagPos_lt f) (flagPos_lt g) (hne g hg).symm b c⟩

/-- A state with SP and P changed by two functions. -/
def State.editStatus (s : State) (k h : Byte → Byte) : State := { s with sp := k s.sp, p := h s.p }

section
variable {k h : Byte → Byte}

theorem read16pair_editStatus (s : State) (aLo aHi : Addr) :
    (s.editStatus k h).read16pair aLo aHi = ((s.read16pair aLo aHi).1, (s.read16pair aLo aHi).2.editStatus k h) := by
  cases hp : s.config.ptrReadOrder
  · rw [read16pair_loFirst hp, read16pair_loFirst (s := s.editStatus k h) hp]; rfl
  · rw [read16pair_hiFirst hp, read16pair_hiFirst (s := s.editStatus k h) hp]; rfl

theorem resolveOperand_editStatus (o : Operand) (s : State) :
    resolveOperand o (s.editStatus k h) = ((resolveOperand o s).1, (resolveOperand o s).2.editStatus k h) := by
  cases o with
  | ind lo hi => simp only [resolveOperand, resolveInd, read16pair_editStatus]; rfl
  | izx zp8 => simp only [resolveOperand, resolveIzx, State.zeroPagePair, read16pair_editStatus]; rfl
  | izy zp8 => simp only [resolveOperand, resolveIzy, State.zeroPagePair, read16pair_editStatus]; rfl
  | _ => rfl

theorem fetchInstr_editStatus (s : State) :
    fetchInstr (s.editStatus k h) = ((fetchInstr s).1, (fetchInstr s).2.editStatus k h) := by
  have hf : (s.editStatus k h).fetchOpcode = (s.fetchOpcode.1, s.fetchOpcode.2.editStatus k h) := rfl
  unfold fetchInstr
  simp only [hf]
  split <;> rfl

theorem fetchOperand_editStatus (mode : Mode) (s : State) :
    fetchOperand mode (s.editStatus k h) = (fetchOperand mode s).map fun r => (r.1, r.2.editStatus k h) := by
  by_cases hi : mode = .imm
  · subst hi; rfl
  · cases hv : s.fetchValid
    · by_cases hr : mode = .rel
      · subst hr
        rw [fetchOperand_rel hv, fetchOperand_rel (s := s.editStatus k h) hv]; rfl
      · rw [fetchOperand_read hv hi hr, fetchOperand_read (s := s.editStatus k h) hv hi hr]; rfl
    · rw [fetchOperand_cached hv, fetchOperand_cached (s := s.editStatus k h) hv]; rfl

/-- A flag an instruction writes is written the same way before and after the change. -/
theorem setFlag_editStatus (hh : Unseen h) {f : Flag} (hf : f ∈ instrFlags) (s : State) (b : Bool) :
    (s.editStatus k h).setFlag f b = (s.setFlag f b).editStatus k h := by
  simp [State.setFlag, State.editStatus, hh.passes f hf]

theorem writeSum_editStatus (hh : Unseen h) (s : State) (r : Byte × Bool × Bool) :
    (s.editStatus k h).writeSum r = (s.writeSum r).editStatus k h := by
  unfold State.writeSum
  rw [setFlag_editStatus hh (by decide), setFlag_editStatus hh (by decide), setFlag_editStatus hh (by decide),
    setFlag_editStatus hh (by decide)]
  rfl

theorem adcWrite_editStatus (hh : Unseen h) (s : State) (m : Byte) :
    (s.editStatus k h).adcWrite m = (s.adcWrite m).editStatus k h := by
  have hc : (s.editStatus k h).flag .C = s.flag .C := hh.carry s.p
  unfold State.adcWrite
  rw [hc, writeSum_editStatus hh]; rfl

theorem sbcWrite_editStatus (hh : Unseen h) (s : State) (m : Byte) :
    (s.editStatus k h).sbcWrite m = (s.sbcWrite m).editStatus k h := by
  have hc : (s.editStatus k h).flag .C = s.flag .C := hh.carry s.p
  unfold State.sbcWrite
  rw [hc, writeSum_editStatus hh]; rfl

theorem operate_editStatus (hh : Unseen h) (op : Operation) (mode : Mode) (s : State) :
    operate op mode (s.editStatus k h) = (operate op mode s).map fun q => (q.1, q.2.editStatus k h) := by
  cases op with
  | fill => rfl
  | adc =>
    simp only [operate, opAdc, fetchOperand_editStatus]
    cases fetchOperand mode s with
    | error f => rfl
    | ok r => simp only [Except.map, adcWrite_editStatus hh]
  | sbc =>
    simp only [operate, opSbc, fetchOperand_editStatus]
    cases fetchOperand mode s with
    | error f => rfl
    | ok r => simp only [Except.map, sbcWrite_editStatus hh]

theorem beginEntry_editStatus (hh : Unseen h) (s : State) (base : Cost) :
    (s.editStatus k h).beginEntry base = (s.beginEntry base).editStatus k h := by
  unfold State.beginEntry State.forceU
  rw [setFlag_editStatus hh (by decide)]
  rfl

theorem endEntry_editStatus (hh : Unseen h) (s : State) (sigA sigB : Bool) :
    (s.editStatus k h).endEntry sigA sigB = (s.endEntry sigA sigB).editStatus k h := by
  have hg : (s.editStatus k h).grantExtra (sigA && sigB) = (s.grantExtra (sigA && sigB)).editStatus k h := rfl
  unfold State.endEntry State.forceU
  rw [hg, setFlag_editStatus hh (by decide)]
  rfl

theorem runEntry_editStatus (hh : Unseen h) (op : Operation) (o : Operand) (base : Cost) (s : State) :
    runEntry op o base (s.editStatus k h) = mapState (·.editStatus k h) (runEntry op o base s) := by
  unfold runEntry finishEntry
  rw [beginEntry_editStatus hh, resolveOperand_editStatus]
  simp only [operate_editStatus hh]
  cases operate op (operandMode o) (resolveOperand o (s.beginEntry base)).2 with
  | error f => rfl
  | ok q => simp only [Except.map, mapState, endEntry_editStatus hh]

theorem exec_editStatus (hh : Unseen h) (i : Instr) (s : State) :
    exec i (s.editStatus k h) = mapState (·.editStatus k h) (exec i s) := by
  rcases exec_form i with ⟨_, op, o, cost, -, -, he⟩ | ⟨_, -, he⟩
  · rw [he, he, runEntry_editStatus hh]; rfl
  · rw [he, he]; rfl

/-- A pulse makes of an unseen change of P, and of any change of SP, what the change makes of its result. -/
theorem step_editStatus (hh : Unseen h) (s : State) :
    step (s.editStatus k h) = mapState (·.editStatus k h) (step s) := by
  have hfr : (s.editStatus k h).refused = s.refused := rfl
  have hcy : (s.editStatus k h).cycles = s.cycles := rfl
  cases hr : s.refused
  · by_cases hc : s.cycles = 0#8
    · rw [step_dispatch hr hc, step_dispatch (hfr.trans hr) (hcy.trans hc), fetchInstr_editStatus, exec_editStatus hh]
    · rw [step_idle hr hc, step_idle (hfr.trans hr) (by rwa [hcy])]; rfl
  · rw [step_refused hr, step_refused (hfr.trans hr)]; rfl

end

/-! ### The hidden registers -/

/-- A state with these values in the three registers of the resolved-address state (R34). -/
def resolvedFrom (h : Hidden) (s : State) : State :=
  { s with absAddr := h.absAddr, relAddr := h.relAddr, fetched := h.fetched }

/-- A fetch overwrites `opcode` and `fetchValid`, reads none of the hidden registers and leaves the other three (R160 step 2). -/
theorem fetchInstr_put (h : Hidden) (s : State) :
    fetchInstr (h.put s) = ((fetchInstr s).1, resolvedFrom h (fetchInstr s).2) := by
  have hf : (h.put s).fetchOpcode = (s.fetchOpcode.1, resolvedFrom h s.fetchOpcode.2) := rfl
  unfold fetchInstr
  simp only [hf]
  split <;> rfl

/-- The begin of an entry overwrites the resolved-address state (R34). -/
theorem beginEntry_resolvedFrom (h : Hidden) (s : State) (base : Cost) :
    (resolvedFrom h s).beginEntry base = s.beginEntry base := rfl

/-- An instruction completes the same way whatever the resolved-address state holds, or its refusal leaves that state alone. -/
theorem exec_resolvedFrom (h : Hidden) (i : Instr) (s : State) :
    (∃ t, exec i s = .next t ∧ exec i (resolvedFrom h s) = .next t) ∨
    (exec i s = refuseUnwired (opcodeOf i) s ∧ exec i (resolvedFrom h s) = refuseUnwired (opcodeOf i) (resolvedFrom h s)) := by
  rcases exec_form i with ⟨_, op, o, cost, hm, -, he⟩ | ⟨_, -, he⟩
  · obtain ⟨t, ht⟩ := runEntry_next op (cost s.config) s hm
    refine .inl ⟨t, (he s).trans ht, ?_⟩
    rw [he, ← ht]
    unfold runEntry
    rw [beginEntry_resolvedFrom]; rfl
  · exact .inr ⟨he s, he _⟩

end Sys2Proof.Machine

namespace Sys2Proof.Proofs

open Machine Claims

/-- Settles O24: an idle pulse only counts down; a dispatch keeps its frame, forces U, and reads under the RAM law. -/
theorem invariantKeptByEveryPulse : Obligations.InvariantKeptByEveryPulse := by
  intro s t hs h
  obtain ⟨hr, ⟨hc, rfl⟩ | ⟨-, _, op, o, base, -, he⟩⟩ := step_next_run h
  · have hle : s.tick.cycles.toNat ≤ 254 := by
      have := hs.bounded
      rw [tick_cycles]
      bv_omega
    exact ⟨hs.canonical, hr, hs.unused, hs.counted, hle, hs.answered⟩
  · have hl : LawfulReads s t := (fetchInstr_lawful s).trans (runEntry_lawful he)
    exact {
      canonical := hl.memory ▸ hs.canonical
      unrefused := by rw [(runEntry_frame he).refused, fetchInstr_refused, hr]
      unused := fun _ => runEntry_unused he
      counted := hl.counted hs.counted
      bounded := runEntry_cycles_le he
      answered := hl.answered hs.answered }

/-- Settles O16: only the fetch moves PC, by as many bytes as the opcode's table entry is long. -/
theorem pcAdvancesByTheLength : Obligations.PcAdvancesByTheLength := by
  intro s t h
  obtain ⟨-, ⟨hc, rfl⟩ | ⟨hc, _, op, o, base, -, he⟩⟩ := step_next_run h
  · exact ⟨fun h0 => absurd h0 hc, fun _ => rfl⟩
  · refine ⟨fun _ => ?_, fun h0 => absurd hc h0⟩
    rw [(runEntry_frame he).pc, fetchInstr_pc, entryLength_table, BitVec.toNat_add, BitVec.toNat_ofNat]
    omega

/-- Settles O17: a dispatch that completes forces U; an idle pulse only counts down. -/
theorem dispatchForcesUnused : Obligations.DispatchForcesUnused := by
  intro s t h
  obtain ⟨-, ⟨hc, rfl⟩ | ⟨hc, _, op, o, base, -, he⟩⟩ := step_next_run h
  · exact ⟨fun h0 => absurd h0 hc, fun _ => rfl⟩
  · exact ⟨fun _ => runEntry_unused he, fun h0 => absurd hc h0⟩

/-- Settles O18: the frame of an entry that runs, after the frame of the fetch. -/
theorem noPulseTouchesHostState : Obligations.NoPulseTouchesHostState := by
  intro s t h
  obtain ⟨-, ⟨-, rfl⟩ | ⟨-, _, op, o, base, -, he⟩⟩ := step_next_run h
  · exact ⟨rfl, rfl, rfl, rfl, rfl, rfl, rfl, fun _ => rfl, rfl⟩
  · have hf := runEntry_frame he
    have hflag {f : Flag} (h : f = .I ∨ f = .D ∨ f = .B) : t.flag f = s.flag f :=
      (runEntry_hostFlag he h).trans (fetchInstr_flag s f)
    have hm : t.mem = s.mem := hf.memory.trans (fetchInstr_mem s)
    exact ⟨hf.x.trans (fetchInstr_x s), hf.y.trans (fetchInstr_y s), hf.sp.trans (fetchInstr_sp s),
      hflag (.inl rfl), hflag (.inr (.inl rfl)), hflag (.inr (.inr rfl)), hm, fun addr => by rw [hm],
      hf.config.trans (fetchInstr_config s)⟩

/-- Settles O19: writing I, D or B is a change of P no pulse sees. -/
theorem inertFlagsHaveNoEffect : Obligations.InertFlagsHaveNoEffect := by
  intro s f b hf
  exact step_editStatus (k := id) (unseen_setBit hf b) s

/-- Settles O50: P has the written byte's bit at each flag's position, and a byte is the sum of its bits. -/
theorem statusWriteStoresEveryBit : Obligations.StatusWriteStoresEveryBit := by
  refine ⟨fun s v => ⟨setP_p s v, ?_⟩, fun s => toNat_eq_sum_flags s⟩
  rw [setP_onlyP]

/-- Settles O55: the fetch and the begin of an entry overwrite the five registers before anything reads them. -/
theorem hiddenRegistersHaveNoEffect : Obligations.HiddenRegistersHaveNoEffect := by
  intro s h hr
  have hput (hc : s.cycles = 0#8) : step (h.put s) = exec (fetchInstr s).1 (resolvedFrom h (fetchInstr s).2) := by
    rw [step_dispatch (s := h.put s) hr hc, fetchInstr_put]
  refine ⟨fun hc t ht => ?_, fun hc op addr left hl => ?_, fun hc => ?_⟩
  · rw [step_dispatch hr hc] at ht
    rw [hput hc]
    obtain ⟨u, hu, hu'⟩ | ⟨hu, -⟩ := exec_resolvedFrom h (fetchInstr s).1 (fetchInstr s).2 <;> rw [hu] at ht <;> cases ht
    exact hu'
  · rw [step_dispatch hr hc] at hl
    rw [hput hc]
    obtain ⟨u, hu, -⟩ | ⟨hu, hu'⟩ := exec_resolvedFrom h (fetchInstr s).1 (fetchInstr s).2 <;> rw [hu] at hl <;> cases hl
    exact hu'
  · rw [step_idle hr hc, step_idle (s := h.put s) hr hc]; rfl

/-- Settles O25: at reset nothing has been read and no RAM is declared. -/
theorem resetSatisfiesTheInvariant : Obligations.ResetSatisfiesTheInvariant := by
  have hinv : RunInvariant State.reset :=
    { canonical := reset_mem_wf
      unrefused := rfl
      unused := fun h => absurd rfl h
      counted := rfl
      bounded := by decide
      answered := fun _ he => absurd he List.not_mem_nil }
  exact ⟨hinv, ⟨rfl, reset_mem_wf, rfl, rfl⟩, rfl, rfl, rfl⟩

/-- Settles O49: each accessor is a change of its one register, and a flag write is read back by `flag_setFlag`. -/
theorem accessorsWriteExactly : Obligations.AccessorsWriteExactly := by
  intro s
  refine ⟨fun v => ⟨rfl, rfl⟩, fun v => ⟨rfl, rfl⟩, fun v => ⟨rfl, rfl⟩, fun v => ⟨rfl, rfl⟩, fun v => ⟨rfl, rfl⟩,
    fun f b => ⟨?_, fun g hg => ?_, rfl⟩⟩
  · rw [flag_setFlag, if_pos rfl]
  · rw [flag_setFlag, if_neg hg]

end Sys2Proof.Proofs
end

section
/-! The statements about the declared RAM of 20_memory.md: what the port answers after a byte is placed or written, and why a
canonical memory is determined by the bytes it holds. -/

namespace Sys2Proof.Machine

/-! ### The port after a byte is placed or written -/

/-- After a byte is placed at an address, the port answers it there (R52). -/
@[simp] theorem portAnswer_place (s : State) (addr : Addr) (b : Byte) : (s.place addr b).portAnswer addr = b :=
  portAnswer_of_ram (Memory.get_put_same _ _ _)

/-- After a write to declared RAM, the port answers the byte written there (R52, R58). -/
theorem portAnswer_memWrite {s : State} {addr : Addr} {v : Byte} (h : s.mem.get addr.toNat = some v) (b : Byte) :
    (s.memWrite addr b).portAnswer addr = b :=
  portAnswer_of_ram (by simp [Memory.get_update, h])

/-- A write to an address that is not declared RAM changes nothing. -/
theorem memWrite_undeclared {s : State} {addr : Addr} (h : s.mem.get addr.toNat = none) (b : Byte) :
    s.memWrite addr b = s := by
  rw [State.memWrite, Memory.update_none _ _ _ h]

/-! ### A canonical memory and the bytes it holds -/

@[simp] theorem Memory.get_head (c : Host.Cell) (m : Memory) : Memory.get (c :: m) c.1 = some c.2 := by
  rw [Memory.get_cons, if_pos rfl]

/-- Nothing is held below the first address a canonical memory lists. -/
theorem Memory.head_le_of_get_some {c : Host.Cell} {m : Memory} (h : Memory.wf (c :: m) = true) {k : Nat} {b : Byte}
    (hk : Memory.get (c :: m) k = some b) : c.1 ≤ k := by
  by_contra hlt
  rw [Memory.get_below_head h (not_le.1 hlt)] at hk
  cases hk

/-- The first address a canonical memory lists is not listed again. -/
theorem Memory.get_tail_head {c : Host.Cell} {m : Memory} (h : Memory.wf (c :: m) = true) : m.get c.1 = none := by
  obtain ⟨-, hlt, hm⟩ := (Memory.wf_cons c m).1 h
  cases m with
  | nil => rfl
  | cons d m => exact Memory.get_below_head hm (hlt d rfl)

/-- What the rest of a canonical memory holds: what the whole holds, but for the first address. -/
theorem Memory.get_tail {c : Host.Cell} {m : Memory} (h : Memory.wf (c :: m) = true) (k : Nat) :
    m.get k = if k = c.1 then none else Memory.get (c :: m) k := by
  split
  · subst k; exact Memory.get_tail_head h
  · rw [Memory.get_cons, if_neg (Ne.symm ‹_›)]

/-- Two canonical memories that hold the same at every address of the space are the same list: the first address of each is
held by the other, so the two are one address, with one byte; the rests then hold the same again. -/
theorem Memory.eq_of_get_eq {m n : Memory} (hm : m.wf = true) (hn : n.wf = true)
    (h : ∀ k < 65536, m.get k = n.get k) : m = n := by
  induction m generalizing n with
  | nil =>
    cases n with
    | nil => rfl
    | cons d n => simpa using h d.1 (Memory.wf_head hn)
  | cons c m ih =>
    cases n with
    | nil => simpa using h c.1 (Memory.wf_head hm)
    | cons d n =>
      have hc : Memory.get (d :: n) c.1 = some c.2 := by rw [← h c.1 (Memory.wf_head hm), Memory.get_head]
      have hd : Memory.get (c :: m) d.1 = some d.2 := by rw [h d.1 (Memory.wf_head hn), Memory.get_head]
      have haddr : c.1 = d.1 := le_antisymm (Memory.head_le_of_get_some hm hd) (Memory.head_le_of_get_some hn hc)
      have hbyte : c.2 = d.2 := by simpa [haddr] using hc.symm
      have hcell : c = d := Prod.ext haddr hbyte
      subst d
      have htail : m = n := ih (Memory.wf_tail hm) (Memory.wf_tail hn) fun k hk => by
        rw [Memory.get_tail hm, Memory.get_tail hn, h k hk]
      rw [htail]

end Sys2Proof.Machine

namespace Sys2Proof.Proofs

open Machine Claims

/-- Settles O53: equal bytes at all addresses make the lists equal, and a canonical memory's bounds are `Memory.wf_bounds`. -/
theorem canonicalMemoryIsUnique : Obligations.CanonicalMemoryIsUnique := by
  intro m n hm hn h
  exact ⟨Memory.eq_of_get_eq hm hn fun k hk => h (BitVec.ofNatLT k hk), fun c hc => (Memory.wf_bounds hm c hc).1⟩

/-- Settles O52: at the address itself the port answers the new byte; at another address the memory lemmas see no change. -/
theorem ramReturnsTheLastByte : Obligations.RamReturnsTheLastByte := by
  intro s addr other b v
  refine ⟨portAnswer_place s addr b, fun hv => portAnswer_memWrite hv b, fun hu => memWrite_undeclared hu b, fun hne => ?_⟩
  have hk : other.toNat ≠ addr.toNat := mt BitVec.eq_of_toNat_eq hne
  exact ⟨Memory.get_put_other s.mem b hk, (Memory.get_update s.mem _ _ b).trans (if_neg hk)⟩

end Sys2Proof.Proofs
end

section
/-! The statements about the encoding of 30_encoding.md. A format is read as what it makes of two bytes (`Format.make`) and which
of them it takes (`Format.operands`): the encoder writes an opcode byte and what its format takes (`encode_make`), the decoder
takes the same bytes back (`decode_word`, `decode_cons_cases`), and every instruction is made by its opcode's format
(`exists_make_eq`). The three lists of opcode bytes are read off the opcode table's operations (`mem_wiredOpcodes`,
`mem_unwiredOpcodes`, `mem_illegalOpcodes`). -/

namespace Sys2Proof

/-- The instruction a format makes of a first and a second operand byte; a format ignores the bytes it does not have (R81). -/
def Format.make : Format → Byte → Byte → Instr
  | .f1 i, _, _ => i
  | .f2 f, lo, _ => f lo
  | .f3 f, lo, hi => f lo hi

/-- The operand bytes a format takes, of a first and a second one, in the order of their addresses (R81). -/
def Format.operands : Format → Byte → Byte → List Byte
  | .f1 _, _, _ => []
  | .f2 _, lo, _ => [lo]
  | .f3 _, lo, hi => [lo, hi]

/-- A format takes as many operand bytes as the decoder counts for its opcode (R82). -/
@[simp] theorem length_operands_formatOf (opcode lo hi : Byte) :
    ((formatOf opcode).operands lo hi).length = operandCount opcode := by
  unfold operandCount
  cases formatOf opcode <;> rfl

/-! ### The decoder -/

/-- An opcode byte followed by the operand bytes its format takes is decoded to what the format makes of them. -/
theorem decode_word (opcode lo hi : Byte) (rest : List Byte) :
    decode (opcode :: (formatOf opcode).operands lo hi ++ rest) = .ok ((formatOf opcode).make lo hi, rest) := by
  cases h : formatOf opcode <;> simp [decode, h, Format.operands, Format.make]

/-- Decoding after an opcode byte finds the operand bytes the format takes, or too few bytes. -/
theorem decode_cons_cases (opcode : Byte) (bytes : List Byte) :
    (∃ lo hi rest, bytes = (formatOf opcode).operands lo hi ++ rest ∧
      decode (opcode :: bytes) = .ok ((formatOf opcode).make lo hi, rest)) ∨
    (bytes.length < operandCount opcode ∧ decode (opcode :: bytes) = .error (.truncated opcode)) := by
  simp only [decode, operandCount]
  cases formatOf opcode with
  | f1 i => exact .inl ⟨0, 0, bytes, rfl, rfl⟩
  | f2 f =>
    match bytes with
    | [] => exact .inr ⟨Nat.zero_lt_one, rfl⟩
    | lo :: rest => exact .inl ⟨lo, 0, rest, rfl, rfl⟩
  | f3 f =>
    match bytes with
    | [] => exact .inr ⟨Nat.zero_lt_two, rfl⟩
    | [_] => exact .inr ⟨Nat.one_lt_two, rfl⟩
    | lo :: hi :: rest => exact .inl ⟨lo, hi, rest, rfl, rfl⟩

/-! ### The encoder -/

/-- What the format of an opcode byte makes is encoded as that opcode byte and the operand bytes the format takes. -/
theorem encode_make (opcode lo hi : Byte) :
    encode ((formatOf opcode).make lo hi) = opcode :: (formatOf opcode).operands lo hi := by
  refine Machine.forall_byte
    (P := fun b => encode ((formatOf b).make lo hi) = b :: (formatOf b).operands lo hi) (fun n hn => ?_) opcode
  interval_cases n <;> rfl

open Laws.OpcodeSlot in
/-- The family `OpcodeSlot` covers every instruction: its members in the order of the constructors. -/
theorem opcodeSlot (i : Instr) : Statement i :=
  Instr.casesOn (motive := Statement) i
    adcIzx adcZp0 adcImm adcAbs adcIzy adcZpx adcAby adcAbx sbcIzx sbcZp0 sbcImm sbcAbs sbcIzy sbcZpx sbcAby sbcAbx brk oraIzx
    fill02 fill03 fill04 oraZp0 aslZp0 fill07 php oraImm aslAcc fill0B fill0C oraAbs aslAbs fill0F bplRel oraIzy fill12 fill13
    fill14 oraZpx aslZpx fill17 clc oraAby fill1A fill1B fill1C oraAbx aslAbx fill1F jsrAbs andIzx fill22 fill23 bitZp0 andZp0
    rolZp0 fill27 plp andImm rolAcc fill2B bitAbs andAbs rolAbs fill2F bmiRel andIzy fill32 fill33 fill34 andZpx rolZpx fill37
    sec andAby fill3A fill3B fill3C andAbx rolAbx fill3F rti eorIzx fill42 fill43 fill44 eorZp0 lsrZp0 fill47 pha eorImm lsrAcc
    fill4B jmpAbs eorAbs lsrAbs fill4F bvcRel eorIzy fill52 fill53 fill54 eorZpx lsrZpx fill57 cli eorAby fill5A fill5B fill5C
    eorAbx lsrAbx fill5F rts fill62 fill63 fill64 rorZp0 fill67 pla rorAcc fill6B jmpInd rorAbs fill6F bvsRel fill72 fill73
    fill74 rorZpx fill77 sei fill7A fill7B fill7C rorAbx fill7F fill80 staIzx fill82 fill83 styZp0 staZp0 stxZp0 fill87 dey
    fill89 txa fill8B styAbs staAbs stxAbs fill8F bccRel staIzy fill92 fill93 styZpx staZpx stxZpy fill97 tya staAby txs fill9B
    fill9C staAbx fill9E fill9F ldyImm ldaIzx ldxImm fillA3 ldyZp0 ldaZp0 ldxZp0 fillA7 tay ldaImm tax fillAB ldyAbs ldaAbs
    ldxAbs fillAF bcsRel ldaIzy fillB2 fillB3 ldyZpx ldaZpx ldxZpy fillB7 clv ldaAby tsx fillBB ldyAbx ldaAbx ldxAby fillBF
    cpyImm cmpIzx fillC2 fillC3 cpyZp0 cmpZp0 decZp0 fillC7 iny cmpImm dex fillCB cpyAbs cmpAbs decAbs fillCF bneRel cmpIzy
    fillD2 fillD3 fillD4 cmpZpx decZpx fillD7 cld cmpAby fillDA fillDB fillDC cmpAbx decAbx fillDF cpxImm fillE2 fillE3 cpxZp0
    incZp0 fillE7 inx nop fillEB cpxAbs incAbs fillEF beqRel fillF2 fillF3 fillF4 incZpx fillF7 sed fillFA fillFB fillFC incAbx
    fillFF

/-- Every instruction is what the format of its own opcode byte makes of some operand bytes. -/
theorem exists_make_eq (i : Instr) : ∃ lo hi, (formatOf (opcodeOf i)).make lo hi = i := by
  have h : Laws.OpcodeSlot.Makes (formatOf (opcodeOf i)) i := opcodeSlot i
  cases hf : formatOf (opcodeOf i) <;> rw [hf] at h
  case f1 j => exact ⟨0, 0, h.2⟩
  case f2 f =>
    obtain ⟨b, -, hb⟩ := h
    exact ⟨b, 0, hb⟩
  case f3 f =>
    obtain ⟨lo, hi, -, hb⟩ := h
    exact ⟨lo, hi, hb⟩

/-- The encoding of an instruction is its opcode byte and the operand bytes its format takes, of which the format makes it. -/
theorem exists_encode_eq (i : Instr) : ∃ lo hi, (formatOf (opcodeOf i)).make lo hi = i ∧
    encode i = opcodeOf i :: (formatOf (opcodeOf i)).operands lo hi := by
  obtain ⟨lo, hi, h⟩ := exists_make_eq i
  have he := encode_make (opcodeOf i) lo hi
  rw [h] at he
  exact ⟨lo, hi, h, he⟩

/-- An instruction has one opcode byte and as many operand bytes as the decoder counts for it (R82). -/
theorem length_encode (i : Instr) : (encode i).length = 1 + operandCount (opcodeOf i) := by
  obtain ⟨lo, hi, -, he⟩ := exists_encode_eq i
  rw [he, List.length_cons, length_operands_formatOf, Nat.add_comm]

/-- Decoding is left inverse to encoding, whatever bytes follow. -/
theorem decode_encode_append (i : Instr) (rest : List Byte) : decode (encode i ++ rest) = .ok (i, rest) := by
  obtain ⟨lo, hi, hmake, he⟩ := exists_encode_eq i
  rw [he, decode_word, hmake]

end Sys2Proof

namespace Sys2Proof.Machine

/-! ### The three classes of opcode bytes -/

/-- The 256 opcode bytes, row by row of R86's map. -/
def allBytes : List Byte :=
  (List.range 16).flatMap fun row => (List.range 16).map fun col => BitVec.ofNat 8 (16 * row + col)

theorem mem_allBytes (b : Byte) : b ∈ allBytes := by
  refine List.mem_flatMap.2 ⟨b.toNat / 16, List.mem_range.2 (by omega),
    List.mem_map.2 ⟨b.toNat % 16, List.mem_range.2 (by omega), ?_⟩⟩
  rw [Nat.div_add_mod, BitVec.ofNat_toNat, BitVec.setWidth_eq]

/-- A list of the bytes with a property, in any order, is a list of exactly those bytes. -/
theorem mem_iff_of_perm_filter {l : List Byte} {p : Byte → Bool} (h : l.Perm (allBytes.filter p)) (b : Byte) :
    b ∈ l ↔ p b = true := by
  rw [h.mem_iff, List.mem_filter, and_iff_right (mem_allBytes b)]

/-- The operation of an opcode's table entry under the default configuration; an unwired entry has none (R150, R151). -/
def operationOf (opcode : Byte) : Option Operation :=
  match table defaultConfig opcode with
  | .run _ op _ _ => some op
  | .unwired _ => none

/-- The wired bytes are those the table gives ADC or SBC. -/
theorem mem_wiredOpcodes (b : Byte) : b ∈ wiredOpcodes ↔ operationOf b = some .adc ∨ operationOf b = some .sbc := by
  have h : wiredOpcodes.Perm (allBytes.filter fun b => operationOf b = some .adc ∨ operationOf b = some .sbc) := by decide
  simpa using mem_iff_of_perm_filter h b

/-- The unwired bytes are those the table gives no operation. -/
theorem mem_unwiredOpcodes (b : Byte) : b ∈ unwiredOpcodes ↔ operationOf b = none := by
  have h : unwiredOpcodes = allBytes.filter fun b => operationOf b = none := by decide
  simpa using mem_iff_of_perm_filter (.of_eq h) b

/-- The illegal bytes are those the table gives FILL. -/
theorem mem_illegalOpcodes (b : Byte) : b ∈ illegalOpcodes ↔ operationOf b = some .fill := by
  have h : illegalOpcodes = allBytes.filter fun b => operationOf b = some .fill := by decide
  simpa using mem_iff_of_perm_filter (.of_eq h) b

/-- The bits of the wired bytes (R85). -/
theorem mem_wiredOpcodes_iff_bits (b : Byte) :
    b ∈ wiredOpcodes ↔ b.toNat % 4 = 1 ∧ (b.toNat / 32 = 3 ∨ b.toNat / 32 = 7) := by
  have h : wiredOpcodes.Perm
      (allBytes.filter fun b => b.toNat % 4 = 1 ∧ (b.toNat / 32 = 3 ∨ b.toNat / 32 = 7)) := by decide
  simpa using mem_iff_of_perm_filter h b

end Sys2Proof.Machine

namespace Sys2Proof.Proofs

open Machine Claims

/-- Settles O1: the encoding is a word of the opcode's format, and such a word is decoded to what the format makes. -/
theorem encodingRoundTrips : Obligations.EncodingRoundTrips :=
  fun i rest _ => decode_encode_append i rest

/-- Settles O2: the decoder took the operand bytes of the opcode's format, and the encoder writes what a format takes. -/
theorem decodedBytesAreTheEncoding : Obligations.DecodedBytesAreTheEncoding := by
  intro bytes rest i h
  cases bytes with
  | nil => cases h
  | cons opcode bytes =>
    obtain ⟨lo, hi, tail, rfl, hd⟩ | ⟨-, hd⟩ := decode_cons_cases opcode bytes <;> rw [hd] at h <;> cases h
    rw [encode_make]
    rfl

/-- Settles O3: with no opcode byte there is nothing to decode; after one, the two cases of the decoder exclude each other. -/
theorem decodingFailsOnlyForMissingBytes : Obligations.DecodingFailsOnlyForMissingBytes := by
  intro bytes
  cases bytes with
  | nil => exact ⟨fun _ => trivial, fun _ => ⟨.noOpcode, rfl⟩⟩
  | cons opcode bytes =>
    obtain ⟨lo, hi, rest, rfl, hd⟩ | ⟨hlt, hd⟩ := decode_cons_cases opcode bytes
    · simp [hd]
    · simp [hd, hlt]

/-- Settles O4: the table's length of an entry and the encoder's of an instruction are both the decoder's count. -/
theorem lengthFollowsFromTheTable : Obligations.LengthFollowsFromTheTable := by
  intro cfg i
  rw [length_encode, entryLength_table]

/-- Settles O5: each word is the encoding of its instruction, followed by the bytes left over. -/
theorem sampleWordsDecode : Obligations.SampleWordsDecode :=
  ⟨decode_encode_append (.adcImm 0x22#8) [], decode_encode_append (.adcZpx 0xF0#8) [],
    decode_encode_append (.adcAbs 0x34#8 0x12#8) [], decode_encode_append (.sbcIzy 0x86#8) [],
    decode_encode_append (.sbcAbx 0xFF#8 0x12#8) [], decode_encode_append .fill02 [],
    decode_encode_append .fillEB [0x01#8], decode_encode_append .nop [], decode_encode_append .jmpAbs [0x00#8, 0x05#8]⟩

/-- Settles O6: a list of a class has the bytes whose table entry has the class's operation, and an entry has one or none. -/
theorem everyByteIsInOneClass : Obligations.EveryByteIsInOneClass := by
  refine ⟨rfl, rfl, rfl, fun opcode => ⟨mem_wiredOpcodes_iff_bits opcode, ?_⟩⟩
  rw [mem_wiredOpcodes, mem_unwiredOpcodes, mem_illegalOpcodes]
  cases operationOf opcode with
  | none => simp
  | some op => cases op <;> simp

end Sys2Proof.Proofs
end

section
/-! The statements about the resolvers and operand materialization of 40_addressing_modes.md. The address helpers are read as the
exact arithmetic of the statements (`mkAddr_eq_word`, `zext16_eq_zpAddr`, `resolveIndexed_eq`), the operand bytes of a mode
are taken once (`exists_resolve_of_take1`, `exists_resolve_of_take2`), and a pointer pair is read once under either order
(`exists_read16pair`); a resolver's statement is these put together. -/

namespace Sys2Proof.Machine

open Claims

/-! ### The address helpers in the terms of the statements -/

theorem mkAddr_eq_word (lo hi : Byte) : mkAddr lo hi = word lo hi := by
  apply BitVec.eq_of_toNat_eq
  rw [mkAddr_toNat, word, BitVec.toNat_ofNat]
  omega

/-- A byte that is a number modulo 256, zero-extended, is that number's zero-page address. -/
theorem zext16_eq_zpAddr {b : Byte} {n : Nat} (h : b.toNat = n % 256) : zext16 b = zpAddr n := by
  apply BitVec.eq_of_toNat_eq
  rw [zext16_toNat, zpAddr, BitVec.toNat_ofNat, h]
  omega

/-- Sign extension fills the high byte with bit 7 (R116). -/
theorem sext16_eq (b : Byte) : sext16 b = BitVec.ofNat 16 (if b.toNat < 128 then b.toNat else 0xFF00 + b.toNat) := by
  apply BitVec.eq_of_toNat_eq
  rw [sext16, BitVec.toNat_signExtend, BitVec.msb_eq_decide, BitVec.toNat_setWidth, BitVec.toNat_ofNat]
  by_cases h : b.toNat < 128
  · simp [h]
  · simp [h, Nat.not_lt.1 h]; omega

theorem add_zext16_eq_indexed (base : Addr) (index : Byte) : base + zext16 index = indexed base index := by
  apply BitVec.eq_of_toNat_eq
  rw [BitVec.toNat_add, zext16_toNat, indexed, BitVec.toNat_ofNat]

theorem pageCross_eq_crossing (base addr : Addr) : pageCross base addr = decide (crossing base addr = 1) := by
  simp [pageCross_eq, crossing]

/-- Where Indirect reads the high byte of its target, as a number (R120). -/
theorem indirectHigh_eq (lo hi : Byte) :
    indirectHigh lo hi =
      if lo.toNat = 255 then BitVec.ofNat 16 (256 * hi.toNat) else BitVec.ofNat 16 (lo.toNat + 1 + 256 * hi.toNat) := by
  have hff : lo = 0xFF#8 ↔ lo.toNat = 255 := BitVec.toNat_inj.symm
  unfold indirectHigh
  split <;> rename_i h <;> rw [hff] at h
  · rw [if_pos h]
    apply BitVec.eq_of_toNat_eq
    rw [pageOf_toNat, mkAddr_toNat, BitVec.toNat_ofNat]
    omega
  · rw [if_neg h]
    apply BitVec.eq_of_toNat_eq
    rw [BitVec.toNat_add, mkAddr_toNat, BitVec.toNat_ofNat]
    simp only [BitVec.toNat_ofNat]
    omega

/-- An indexed resolver's output and signal (R118, R119, R123). -/
theorem resolveIndexed_eq (base : Addr) (index : Byte) (s : State) :
    resolveIndexed base index s =
      (decide (crossing base (indexed base index) = 1), { s with absAddr := indexed base index }) := by
  rw [resolveIndexed, add_zext16_eq_indexed, pageCross_eq_crossing, State.resolved]

/-! ### The operand bytes of a mode -/

/-- The state after one operand byte is taken at PC: PC past it, the read recorded and counted. -/
def State.afterOperand (s : State) (b : Byte) : State :=
  { s with pc := s.pc + 1#16, history := ⟨s.pc, b⟩ :: s.history, reads := s.reads + 1 }

/-- The state after two operand bytes are taken at PC. -/
def State.afterOperands (s : State) (lo hi : Byte) : State :=
  { s with
    pc := s.pc + 2#16
    history := ⟨s.pc + 1#16, hi⟩ :: ⟨s.pc, lo⟩ :: s.history
    reads := s.reads + 2 }

theorem fetchNext_state (s : State) : s.fetchNext.2 = s.afterOperand s.fetchNext.1 := rfl

theorem afterOperand_afterOperand (s : State) (lo hi : Byte) :
    (s.afterOperand lo).afterOperand hi = s.afterOperands lo hi := by
  simp [State.afterOperand, State.afterOperands, BitVec.add_assoc]

theorem fetchNext_ramLaw (s : State) : RamLaw s s.pc s.fetchNext.1 := portAnswer_ramLaw s s.pc

/-- The resolver of a mode with one operand byte runs on a byte the port may answer at PC. -/
theorem exists_resolve_of_take1 (s : State) (mode : Mode) (mk : Byte → Operand) (h : s.takeOperand mode = s.take1 mk) :
    ∃ b, RamLaw s s.pc b ∧ resolve mode s = resolveOperand (mk b) (s.afterOperand b) :=
  ⟨s.fetchNext.1, fetchNext_ramLaw s, by rw [resolve, h, State.take1, fetchNext_state]⟩

/-- The resolver of a mode with two operand bytes runs on bytes the port may answer at PC and PC + 1. -/
theorem exists_resolve_of_take2 (s : State) (mode : Mode) (mk : Byte → Byte → Operand)
    (h : s.takeOperand mode = s.take2 mk) :
    ∃ lo hi, RamLaw s s.pc lo ∧ RamLaw s (s.pc + 1#16) hi ∧
      resolve mode s = resolveOperand (mk lo hi) (s.afterOperands lo hi) := by
  refine ⟨s.fetchNext.1, s.fetchNext.2.fetchNext.1, fetchNext_ramLaw s, ?_, ?_⟩
  · exact (ramLaw_congr (fetchNext_mem s)).1 (fetchNext_ramLaw s.fetchNext.2)
  · rw [resolve, h, State.take2, fetchNext_state s.fetchNext.2, ← afterOperand_afterOperand, ← fetchNext_state s]

/-- A zero-page indexed mode puts the operand byte plus its index, modulo 256, in absAddr (R114, R115). -/
theorem exists_resolve_zpIndexed (s : State) (mode : Mode) (mk : Byte → Operand) (index : Byte)
    (h : s.takeOperand mode = s.take1 mk)
    (hmk : ∀ b, resolveOperand (mk b) (s.afterOperand b) = resolveZpIndexed b index (s.afterOperand b)) :
    ∃ b, RamLaw s s.pc b ∧
      resolve mode s = (false, { s.afterOperand b with absAddr := zpAddr (b.toNat + index.toNat) }) := by
  obtain ⟨b, hb, hr⟩ := exists_resolve_of_take1 s mode mk h
  refine ⟨b, hb, ?_⟩
  rw [hr, hmk, resolveZpIndexed, zext16_eq_zpAddr (BitVec.toNat_add b index), State.resolved]

/-- An absolute indexed mode puts its base plus its index in absAddr, with the page-cross signal (R118, R119). -/
theorem exists_resolve_absIndexed (s : State) (mode : Mode) (mk : Byte → Byte → Operand) (index : Byte)
    (h : s.takeOperand mode = s.take2 mk)
    (hmk : ∀ lo hi, resolveOperand (mk lo hi) (s.afterOperands lo hi) =
      resolveIndexed (mkAddr lo hi) index (s.afterOperands lo hi)) :
    ∃ lo hi, RamLaw s s.pc lo ∧ RamLaw s (s.pc + 1#16) hi ∧
      resolve mode s = (decide (crossing (word lo hi) (indexed (word lo hi) index) = 1),
        { s.afterOperands lo hi with absAddr := indexed (word lo hi) index }) := by
  obtain ⟨lo, hi, hlo, hhi, hr⟩ := exists_resolve_of_take2 s mode mk h
  refine ⟨lo, hi, hlo, hhi, ?_⟩
  rw [hr, hmk, mkAddr_eq_word, resolveIndexed_eq]

/-! ### A pointer pair in the terms of the statements -/

/-- The state after a pointer pair is read: the two reads recorded, in the configured order, and counted (R124). -/
def State.afterPair (s : State) (aLo : Addr) (lo : Byte) (aHi : Addr) (hi : Byte) : State :=
  { s with history := (pairReads s aLo lo aHi hi).reverse ++ s.history, reads := s.reads + 2 }

/-- A pointer pair reads two bytes the port may answer at its addresses, in the configured order (R124). -/
theorem exists_read16pair (s : State) (aLo aHi : Addr) :
    ∃ lo hi, RamLaw s aLo lo ∧ RamLaw s aHi hi ∧ s.read16pair aLo aHi = ((lo, hi), s.afterPair aLo lo aHi hi) := by
  obtain ⟨hlo, hhi⟩ := read16pair_ramLaw s aLo aHi
  refine ⟨_, _, hlo, hhi, ?_⟩
  cases h : s.config.ptrReadOrder
  · simp [read16pair_loFirst h, State.afterPair, pairReads, h, State.memRead]
  · simp [read16pair_hiFirst h, State.afterPair, pairReads, h, State.memRead]

/-- The pointer pair at a number modulo 256 is at that number and the next, each modulo 256, in page 0 (R121, R122). -/
theorem exists_zeroPagePair (s : State) {t : Byte} {n : Nat} (h : t.toNat = n % 256) :
    ∃ lo hi, RamLaw s (zpAddr n) lo ∧ RamLaw s (zpAddr (n + 1)) hi ∧
      s.zeroPagePair t = ((lo, hi), s.afterPair (zpAddr n) lo (zpAddr (n + 1)) hi) := by
  have hnext : (t + 1#8).toNat = (n + 1) % 256 := by
    rw [BitVec.toNat_add, h, Nat.mod_add_mod]
    rfl
  rw [State.zeroPagePair, zext16_eq_zpAddr h, zext16_eq_zpAddr hnext]
  exact exists_read16pair s _ _

end Sys2Proof.Machine

namespace Sys2Proof.Proofs

open Machine Claims

/-- Settles O45: the pair read at the pointer and at `indirectHigh`, whose value is the page wrap. -/
theorem indirectPageWrap : Obligations.IndirectPageWrap := by
  intro s
  obtain ⟨lo, hi, hlo, hhi, hr⟩ := exists_resolve_of_take2 s .ind .ind rfl
  obtain ⟨tlo, thi, htlo, hthi, hp⟩ := exists_read16pair (s.afterOperands lo hi) (word lo hi) (indirectHigh lo hi)
  refine ⟨lo, hi, tlo, thi, hlo, hhi, ?_⟩
  rw [← indirectHigh_eq]
  refine ⟨htlo, hthi, hr.trans ?_⟩
  rw [resolveOperand, resolveInd, mkAddr_eq_word, hp, mkAddr_eq_word]
  rfl

/-- Settles O46: both pointers are zero-page pairs, and Indirect-indexed then adds Y as the absolute indexed modes do. -/
theorem zeroPagePointerResolvers : Obligations.ZeroPagePointerResolvers := by
  intro s
  constructor
  · obtain ⟨b, hb, hr⟩ := exists_resolve_of_take1 s .izx .izx rfl
    obtain ⟨lo, hi, hlo, hhi, hp⟩ := exists_zeroPagePair (s.afterOperand b) (BitVec.toNat_add b s.x)
    refine ⟨b, lo, hi, hb, hlo, hhi, hr.trans ?_⟩
    show resolveIzx b (s.afterOperand b) = _
    rw [resolveIzx, show (s.afterOperand b).x = s.x from rfl, hp, mkAddr_eq_word]
    rfl
  · obtain ⟨b, hb, hr⟩ := exists_resolve_of_take1 s .izy .izy rfl
    obtain ⟨lo, hi, hlo, hhi, hp⟩ := exists_zeroPagePair (s.afterOperand b) (Nat.mod_eq_of_lt b.isLt).symm
    refine ⟨b, lo, hi, hb, hlo, hhi, hr.trans ?_⟩
    rw [resolveOperand, resolveIzy, hp, mkAddr_eq_word, resolveIndexed_eq]
    rfl

/-- Settles O48: at declared RAM the RAM law leaves the two bytes no choice, and the order only places the two reads. -/
theorem pointerOrderIsInvisibleInRam : Obligations.PointerOrderIsInvisibleInRam := by
  intro s aLo aHi lo hi order hlo hhi s'
  obtain ⟨lo', hi', hlo', hhi', hr⟩ := exists_read16pair s' aLo aHi
  obtain rfl : lo' = lo := hlo' lo hlo
  obtain rfl : hi' = hi := hhi' hi hhi
  rw [hr]
  cases order <;> exact ⟨rfl, rfl⟩

/-- Settles O41: Implied takes no operand byte, Immediate and Zero-page one, Absolute two. -/
theorem unindexedResolvers : Obligations.UnindexedResolvers := by
  intro s
  refine ⟨rfl, exists_resolve_of_take1 s .imm .imm rfl, ?_, ?_⟩
  · obtain ⟨b, hb, hr⟩ := exists_resolve_of_take1 s .zp0 .zp0 rfl
    refine ⟨b, hb, hr.trans ?_⟩
    rw [← zext16_eq_zpAddr (Nat.mod_eq_of_lt b.isLt).symm]
    rfl
  · obtain ⟨lo, hi, hlo, hhi, hr⟩ := exists_resolve_of_take2 s .abs .abs rfl
    refine ⟨lo, hi, hlo, hhi, hr.trans ?_⟩
    rw [← mkAddr_eq_word]
    rfl

/-- Settles O42: X is the index of the one mode, Y of the other. -/
theorem zeroPageIndexedResolvers : Obligations.ZeroPageIndexedResolvers :=
  fun s => ⟨exists_resolve_zpIndexed s .zpx .zpx s.x rfl fun _ => rfl,
    exists_resolve_zpIndexed s .zpy .zpy s.y rfl fun _ => rfl⟩

/-- Settles O43: the offset taken at PC, sign-extended. -/
theorem relativeResolver : Obligations.RelativeResolver := by
  intro s
  obtain ⟨b, hb, hr⟩ := exists_resolve_of_take1 s .rel .rel rfl
  refine ⟨b, hb, hr.trans ?_⟩
  rw [← sext16_eq]
  rfl

/-- Settles O44: X is the index of the one mode, Y of the other. -/
theorem absoluteIndexedResolvers : Obligations.AbsoluteIndexedResolvers :=
  fun s => ⟨exists_resolve_absIndexed s .abx .abx s.x rfl fun _ _ => rfl,
    exists_resolve_absIndexed s .aby .aby s.y rfl fun _ _ => rfl⟩

/-- Settles O47: the cases of materialization; a call that succeeded left its byte cached, or was Immediate and changed nothing. -/
theorem materializationReadsOnce : Obligations.MaterializationReadsOnce := by
  intro mode s
  refine ⟨?_, ?_, ?_, ?_⟩
  · rintro (rfl | hv)
    · exact fetchOperand_imm s
    · exact fetchOperand_cached hv mode
  · rintro rfl hv
    exact fetchOperand_rel hv
  · intro hi hr hv
    exact ⟨s.materialize.1, portAnswer_ramLaw s s.absAddr, fetchOperand_read hv hi hr⟩
  · intro m t h
    obtain hc | hc | ⟨-, hc⟩ := fetchOperand_cases mode s <;> rw [hc] at h <;> cases h
    · exact hc
    · exact fetchOperand_cached (materialize_fetchValid s) mode

end Sys2Proof.Proofs
end

section
/-! The statements about the dispatch engine of 41_dispatch_engine.md. What a fetch leaves is said in two ways: the state after the
encoding of the instruction fetched (`fetchInstr_state`), and as many byte fetches as the opcode's entry asks for
(`fetchInstr_eq`). Every instruction is read as its table entry run on its operand bytes (`exec_make`). A dispatch then either
completes or is the refusal right after the opcode fetch (`step_boundary`). -/

namespace Sys2Proof.Machine

open Claims

/-! ### The table entry of an opcode -/

/-- The operation of an entry; an unwired entry has none (R151). -/
def entryOperation : Entry → Option Operation
  | .run _ op _ _ => some op
  | .unwired _ => none

/-- The base cost of an entry; an unwired entry has none (R151). -/
def entryCost : Entry → Option Cost
  | .run _ _ _ base => some base
  | .unwired _ => none

/-- No configuration changes the operation of an opcode. -/
theorem entryOperation_table (cfg : Config) (opcode : Byte) : entryOperation (table cfg opcode) = operationOf opcode := by
  refine forall_byte (P := fun b => entryOperation (table cfg b) = operationOf b) (fun n hn => ?_) opcode
  interval_cases n <;> rfl

/-- The unwired bytes are those with an unwired entry, in every configuration. -/
theorem mem_unwiredOpcodes_iff_table (cfg : Config) (opcode : Byte) :
    opcode ∈ unwiredOpcodes ↔ ∃ mnemonic, table cfg opcode = .unwired mnemonic := by
  rw [mem_unwiredOpcodes, ← entryOperation_table cfg]
  cases table cfg opcode <;> simp [entryOperation]

/-- The illegal bytes have the fill entry, in every configuration. -/
theorem table_illegal (cfg : Config) : ∀ opcode ∈ illegalOpcodes, table cfg opcode = fillEntry cfg opcode :=
  List.map_inj_left.1 (rfl : illegalOpcodes.map (table cfg) = illegalOpcodes.map (fillEntry cfg))

theorem exists_run_of_entryCost {e : Entry} {base : Cost} (h : entryCost e = some base) :
    ∃ mnemonic op mode, e = .run mnemonic op mode base := by
  cases e <;> cases h
  exact ⟨_, _, _, rfl⟩

/-! ### An instruction is its table entry run on its operand bytes -/

/-- The operand of a mode, of a first and a second operand byte; a mode ignores the bytes it does not have (R110). -/
def operandOf : Mode → Byte → Byte → Operand
  | .imp, _, _ => .imp
  | .imm, lo, _ => .imm lo
  | .zp0, lo, _ => .zp0 lo
  | .zpx, lo, _ => .zpx lo
  | .zpy, lo, _ => .zpy lo
  | .rel, lo, _ => .rel lo
  | .abs, lo, hi => .abs lo hi
  | .abx, lo, hi => .abx lo hi
  | .aby, lo, hi => .aby lo hi
  | .ind, lo, hi => .ind lo hi
  | .izx, lo, _ => .izx lo
  | .izy, lo, _ => .izy lo

@[simp] theorem operandMode_operandOf (mode : Mode) (lo hi : Byte) : operandMode (operandOf mode lo hi) = mode := by
  cases mode <;> rfl

/-- What a table entry means once its operand bytes are taken: it is run on them, or refused (R160). -/
def entryMeaning (opcode lo hi : Byte) (s : State) : Entry → Result
  | .run _ op mode base => runEntry op (operandOf mode lo hi) base s
  | .unwired _ => refuseUnwired opcode s

/-- The instruction an opcode's format makes of two bytes means what the opcode's table entry means on them. -/
theorem exec_make (opcode lo hi : Byte) (s : State) :
    exec ((formatOf opcode).make lo hi) s = entryMeaning opcode lo hi s (table s.config opcode) := by
  refine forall_byte
    (P := fun b => exec ((formatOf b).make lo hi) s = entryMeaning b lo hi s (table s.config b)) (fun n hn => ?_) opcode
  interval_cases n <;> rfl

/-! ### The fetch, one byte after another -/

/-- The state after so many bytes are fetched at PC. -/
def State.fetchBytes (n : Nat) : State → State := (fun s => s.fetchNext.2)^[n]

/-- A fetch is the opcode fetch, and then as many byte fetches as the opcode's format asks for (R82, R160). -/
theorem fetchInstr_eq (s : State) :
    fetchInstr s =
      ((formatOf (s.portAnswer s.pc)).make s.fetchOpcode.2.fetchNext.1 s.fetchOpcode.2.fetchNext.2.fetchNext.1,
        s.fetchOpcode.2.fetchBytes (operandCount (s.portAnswer s.pc))) := by
  unfold fetchInstr operandCount
  simp only [fetchOpcode_byte]
  cases formatOf (s.portAnswer s.pc) <;> rfl

/-- A mode's operand is made of the next bytes at PC, of which it fetches `operandBytes` (R110, R125). -/
theorem takeOperand_eq (mode : Mode) (s : State) :
    s.takeOperand mode =
      (operandOf mode s.fetchNext.1 s.fetchNext.2.fetchNext.1, s.fetchBytes (operandBytes mode)) := by
  cases mode <;> rfl

/-- Fetching bytes and the begin of an entry change different fields, so their order does not matter. -/
theorem fetchBytes_beginEntry (n : Nat) (s : State) (base : Cost) :
    (s.beginEntry base).fetchBytes n = (s.fetchBytes n).beginEntry base := by
  have h : Function.Commute (fun u : State => u.beginEntry base) (fun u => u.fetchNext.2) := fun _ => rfl
  exact (h.iterate_right n s).symm

/-- A dispatch means what the table entry of the opcode the port answers at PC means, after the entry's operand bytes. -/
theorem exec_fetchInstr (s : State) :
    exec (fetchInstr s).1 (fetchInstr s).2 =
      entryMeaning (s.portAnswer s.pc) s.fetchOpcode.2.fetchNext.1 s.fetchOpcode.2.fetchNext.2.fetchNext.1
        (s.fetchOpcode.2.fetchBytes (operandCount (s.portAnswer s.pc))) (table s.config (s.portAnswer s.pc)) := by
  have hcfg : (fetchInstr s).2.config = s.config := fetchInstr_config s
  rw [fetchInstr_eq] at hcfg ⊢
  rw [exec_make, hcfg]

/-- The decoder counts the operand bytes an entry's length leaves after the opcode byte. -/
theorem operandCount_eq_of_entryLength {cfg : Config} {opcode : Byte} {n : Nat}
    (h : entryLength (table cfg opcode) = 1 + n) : operandCount opcode = n := by
  rw [entryLength_table] at h
  exact Nat.add_left_cancel h

/-- The dispatch of an opcode whose entry runs, as R160 writes it: the entry begins, then its operand bytes are taken at PC. -/
theorem exec_fetchInstr_run {s : State} {mnemonic : String} {op : Operation} {mode : Mode} {base : Cost}
    (h : table s.config (s.portAnswer s.pc) = .run mnemonic op mode base) :
    exec (fetchInstr s).1 (fetchInstr s).2 = finishEntry op mode (resolve mode (s.fetchOpcode.2.beginEntry base)) := by
  have hlen : operandCount (s.portAnswer s.pc) = operandBytes mode := operandCount_eq_of_entryLength (by rw [h]; rfl)
  rw [exec_fetchInstr, h, hlen, entryMeaning, runEntry, operandMode_operandOf, resolve, takeOperand_eq,
    fetchBytes_beginEntry]
  rfl

/-- The dispatch of an unwired opcode is the refusal of the state right after the opcode fetch (R160 step 3). -/
theorem exec_fetchInstr_unwired {s : State} {mnemonic : String}
    (h : table s.config (s.portAnswer s.pc) = .unwired mnemonic) :
    exec (fetchInstr s).1 (fetchInstr s).2 = refuseUnwired (s.portAnswer s.pc) s.fetchOpcode.2 := by
  have hlen : operandCount (s.portAnswer s.pc) = 0 := operandCount_eq_of_entryLength (by rw [h]; rfl)
  rw [exec_fetchInstr, h, hlen]
  rfl

/-! ### The fetch as the encoding of the instruction fetched -/

/-- A fetch leaves the state after the encoding of the instruction fetched. -/
theorem fetchInstr_state (s : State) : (fetchInstr s).2 = afterFetch s (encode (fetchInstr s).1) := by
  rw [fetchInstr_eq, encode_make]
  unfold operandCount
  cases formatOf (s.portAnswer s.pc) <;>
    simp [State.fetchBytes, afterFetch, Format.operands, State.fetchOpcode, State.fetchNext, State.memRead, BitVec.add_assoc]

/-- Where the reads of a fetch obey the RAM law, each fetched byte does, at its own address. -/
theorem ramLaw_of_lawful_afterFetch {s : State} {bytes : List Byte} (h : LawfulReads s (afterFetch s bytes)) {k : Nat}
    {b : Byte} (hk : bytes[k]? = some b) : RamLaw s (s.pc + BitVec.ofNat 16 k) b := by
  obtain ⟨-, events, ⟨hhist, -⟩, hlaw⟩ := h
  have hevents : (bytes.zipIdx.map fun e => ReadEvent.mk (s.pc + BitVec.ofNat 16 e.2) e.1) = events :=
    List.reverse_injective (List.append_cancel_right hhist)
  subst hevents
  exact hlaw _ (List.mem_map.2 ⟨(b, k), List.mem_zipIdx_iff_getElem?.2 hk, rfl⟩)

/-- Each byte of the instruction fetched is an answer the port may give at its address (R52, R56). -/
theorem encode_fetchInstr_ramLaw {s : State} {k : Nat} {b : Byte} (hk : (encode (fetchInstr s).1)[k]? = some b) :
    RamLaw s (s.pc + BitVec.ofNat 16 k) b :=
  ramLaw_of_lawful_afterFetch (fetchInstr_state s ▸ fetchInstr_lawful s) hk

/-- Where declared RAM holds the encoding of an instruction at PC, that instruction is the one fetched: its opcode byte fixes how
many bytes there are, and the RAM law fixes each of them. -/
theorem fetchInstr_of_holdsAt {s : State} {i : Instr} (h : HoldsAt s s.pc (encode i)) : (fetchInstr s).1 = i := by
  have hop : opcodeOf (fetchInstr s).1 = opcodeOf i := by
    obtain ⟨lo, hi, -, he⟩ := exists_encode_eq i
    rw [fetchInstr_opcode]
    apply portAnswer_of_ram
    simpa using h 0 (opcodeOf i) (by rw [he]; rfl)
  have hbytes : encode (fetchInstr s).1 = encode i := by
    apply List.ext_getElem
    · rw [length_encode, length_encode, hop]
    · intro k hk hk'
      exact encode_fetchInstr_ramLaw (List.getElem?_eq_getElem hk) _ (h k _ (List.getElem?_eq_getElem hk'))
  have hdec := decode_encode_append (fetchInstr s).1 []
  rw [hbytes, decode_encode_append] at hdec
  cases hdec
  rfl

/-! ### What a dispatch answers -/

/-- A dispatch completes, or the opcode the port answers at PC is unwired and refused right after its fetch. -/
theorem step_boundary {s : State} (hr : s.refused = false) (hc : s.cycles = 0#8) :
    (s.portAnswer s.pc ∉ unwiredOpcodes ∧ ∃ t, step s = .next t) ∨
    (s.portAnswer s.pc ∈ unwiredOpcodes ∧ step s = refuseUnwired (s.portAnswer s.pc) s.fetchOpcode.2) := by
  rw [mem_unwiredOpcodes_iff_table s.config, step_dispatch hr hc]
  rcases exec_cases (fetchInstr s).1 (fetchInstr s).2 with ⟨_, op, o, base, ht, hm, he⟩ | ⟨_, ht, -⟩ <;>
    rw [fetchInstr_config, fetchInstr_opcode] at ht
  · exact .inl ⟨by simp [ht], he ▸ runEntry_next op base _ hm⟩
  · exact .inr ⟨⟨_, ht⟩, exec_fetchInstr_unwired ht⟩

/-- The refusal right after an opcode fetch names the address the opcode was fetched at (R160 step 3). -/
theorem refuseUnwired_fetchOpcode (s : State) :
    refuseUnwired (s.portAnswer s.pc) s.fetchOpcode.2 =
      .refused (.unwiredOpcode (s.portAnswer s.pc) s.pc { s.fetchOpcode.2 with refused := true }) := by
  simp [refuseUnwired]

/-- A pulse that refuses an unwired opcode is the dispatch of an opcode the port answers at PC. -/
theorem step_unwiredOpcode {s left : State} {op : Byte} {addr : Addr}
    (h : step s = .refused (.unwiredOpcode op addr left)) :
    s.refused = false ∧ s.cycles = 0#8 ∧ op = s.portAnswer s.pc ∧ op ∈ unwiredOpcodes ∧ addr = s.pc ∧
      left = { s.fetchOpcode.2 with refused := true } := by
  cases hr : s.refused
  · by_cases hc : s.cycles = 0#8
    · obtain ⟨-, t, ht⟩ | ⟨hm, ht⟩ := step_boundary hr hc
      · rw [ht] at h; cases h
      · rw [ht, refuseUnwired_fetchOpcode] at h
        cases h
        exact ⟨rfl, hc, rfl, hm, rfl, rfl⟩
    · rw [step_idle hr hc] at h; cases h
  · rw [step_refused hr] at h; cases h

/-! ### The cycles of an instruction -/

/-- Signal B is given by ADC and SBC alone (R188, R220). -/
theorem operate_signal {op : Operation} {mode : Mode} {s : State} {q : Bool × State} (h : operate op mode s = .ok q) :
    q.1 = decide (op ≠ .fill) := by
  cases op with
  | fill => cases h; rfl
  | adc => simp only [operate, opAdc] at h; split at h <;> cases h; rfl
  | sbc => simp only [operate, opSbc] at h; split at h <;> cases h; rfl

/-- No operation touches the cycle counter. -/
theorem operate_cycles {op : Operation} {mode : Mode} {s : State} {q : Bool × State} (h : operate op mode s = .ok q) :
    q.2.cycles = s.cycles := by
  obtain ⟨m, rfl | rfl, hq | ⟨sum, hq⟩⟩ := operate_ok h <;> rw [hq] <;> rfl

/-- Signal A is given by the page-cross modes alone (R123, R162). -/
theorem mode_of_resolveOperand_signal {o : Operand} {s : State} (h : (resolveOperand o s).1 = true) :
    operandMode o = .abx ∨ operandMode o = .aby ∨ operandMode o = .izy := by
  cases o with
  | abx lo hi => exact .inl rfl
  | aby lo hi => exact .inr (.inl rfl)
  | izy zp8 => exact .inr (.inr rfl)
  | _ => cases h

/-- The end of an entry leaves the counter at its cost and the granted extra cycle, less one, with no overflow: a cost is at most
254 (R150, R160). -/
theorem remaining_endEntry {s : State} {base : Cost} (h : s.cycles = base.value) (sigA sigB : Bool) :
    Remaining (s.endEntry sigA sigB) base (sigA && sigB).toNat := by
  obtain ⟨hlo, hhi⟩ := base.inRange
  rw [Remaining, endEntry_cycles, h]
  cases sigA && sigB
  · simp
    bv_omega
  · simp

/-- An entry that runs leaves its base cost and an extra cycle of 0 or 1 to go, less the pulse itself; the extra cycle asks for
both signals (R162). -/
theorem runEntry_remaining {op : Operation} {o : Operand} {base : Cost} {s t : State} (h : runEntry op o base s = .next t) :
    ∃ e, Remaining t base e ∧ e ≤ 1 ∧
      (e = 1 → op ≠ .fill ∧ (operandMode o = .abx ∨ operandMode o = .aby ∨ operandMode o = .izy)) := by
  unfold runEntry finishEntry at h
  split at h <;> cases h
  rename_i q hq
  have hc : q.2.cycles = base.value := by
    rw [operate_cycles hq, resolveOperand_cycles, beginEntry_cycles]
  refine ⟨_, remaining_endEntry hc _ _, Bool.toNat_le _, fun he => ?_⟩
  rw [Bool.toNat_eq_one, Bool.and_eq_true, operate_signal hq, decide_eq_true_iff] at he
  exact ⟨he.2, mode_of_resolveOperand_signal he.1⟩

/-- A pulse that answers a next state keeps the state unrefused. -/
theorem refused_of_step_next {s t : State} (h : step s = .next t) : t.refused = false := by
  obtain ⟨hr, ⟨-, rfl⟩ | ⟨-, _, op, o, base, -, he⟩⟩ := step_next_run h
  · exact hr
  · rw [(runEntry_frame he).refused, fetchInstr_refused, hr]

/-- A run goes on from the next state of its first step. -/
theorem run_succ_of_next {M : Host.Core} {s t : M.State} (h : M.step s = .next t) (n : Nat) :
    M.run (n + 1) s = M.run n t := by
  rw [Host.Core.run, h]

/-- A run ends with a refusal of its first step. -/
theorem run_succ_of_refused {M : Host.Core} {s : M.State} {r : M.Refusal} (h : M.step s = .refused r) (n : Nat) :
    M.run (n + 1) s = .refused r := by
  rw [Host.Core.run, h]

/-! ### The construction of a configuration -/

theorem firstOutOfRange_eq_none (cost : Byte → Nat) (l : List Byte) :
    firstOutOfRange cost l = none ↔ ∀ op ∈ l, 1 ≤ cost op ∧ cost op ≤ 254 := by
  induction l with
  | nil => simp [firstOutOfRange]
  | cons op l ih =>
    rw [firstOutOfRange, List.forall_mem_cons, ← ih]
    by_cases h : 1 ≤ cost op ∧ cost op ≤ 254 <;> simp [costInRange, h]

theorem value_costOfNat {n : Nat} (h : 1 ≤ n ∧ n ≤ 254) : (costOfNat n).value.toNat = n := by
  rw [costOfNat, dif_pos h, BitVec.toNat_ofNat]
  omega

/-- Construction succeeds only past both range checks (R152). -/
theorem inRange_of_build {base fill : Byte → Nat} {order : PtrReadOrder} {cfg : Config}
    (h : Config.build base fill order = .ok cfg) :
    firstOutOfRange base wiredOpcodes = none ∧ firstOutOfRange fill illegalOpcodes = none := by
  unfold Config.build at h
  split at h
  · cases h
  · cases h
  · exact ⟨‹_›, ‹_›⟩

/-- Where a configuration lists the fill costs of a map in R87's order, an illegal opcode's entry has the map's cost (R154). -/
theorem table_illegal_of_fillCycles {cfg : Config} {fill : Byte → Nat} {op : Byte} (hop : op ∈ illegalOpcodes)
    (h : cfg.fillCycles = Vector.ofFn fun i => costOfNat (fill (illegalOpcodes.getD i.val 0))) :
    table cfg op = .run "???" .fill .imp (costOfNat (fill op)) := by
  have hidx : illegalOpcodes.idxOf op < illegalOpcodes.length := List.idxOf_lt_length_of_mem hop
  have hlt : illegalOpcodes.idxOf op < 105 := hidx
  have hcost : fillCost cfg op = costOfNat (fill op) := by
    rw [fillCost, h, Vector.getElem?_eq_getElem hlt, Vector.getElem_ofFn, Option.getD_some, List.getD_eq_getElem _ _ hidx,
      List.getElem_idxOf]
  rw [table_illegal cfg op hop, fillEntry, hcost]

/-- Past both range checks construction succeeds, and the table holds the costs of the maps (R150, R152). -/
theorem exists_build {base fill : Byte → Nat} (order : PtrReadOrder) (hb : firstOutOfRange base wiredOpcodes = none)
    (hf : firstOutOfRange fill illegalOpcodes = none) :
    ∃ cfg, Config.build base fill order = .ok cfg ∧ cfg.ptrReadOrder = order ∧
      (∀ op ∈ wiredOpcodes, entryCost (table cfg op) = some (costOfNat (base op))) ∧
      ∀ op ∈ illegalOpcodes, table cfg op = .run "???" .fill .imp (costOfNat (fill op)) := by
  refine ⟨_, by rw [Config.build, hb, hf], rfl, ?_, fun op hop => ?_⟩
  · exact List.map_inj_left.1 rfl
  · exact table_illegal_of_fillCycles hop rfl

/-- Every fill cost of the default configuration is 2 (R154, D4). -/
theorem fillCost_defaultConfig (opcode : Byte) : fillCost defaultConfig opcode = costOfNat 2 := by
  rw [fillCost, defaultConfig, Vector.getElem?_replicate]
  split <;> rfl

end Sys2Proof.Machine

namespace Sys2Proof.Proofs

open Machine Claims

/-- Settles O8: the bytes are the encoding of the instruction fetched. -/
theorem stepFetchesThroughThePort : Obligations.StepFetchesThroughThePort := by
  intro s hr hc
  refine ⟨encode (fetchInstr s).1, (fetchInstr s).1, ?_, rfl, fun k b hk => encode_fetchInstr_ramLaw hk, ?_⟩
  · simpa using decode_encode_append (fetchInstr s).1 []
  · rw [step_dispatch hr hc, ← fetchInstr_state]

/-- Settles O7: the bytes are the encoding of `i`, and declared RAM lets no other instruction be fetched. -/
theorem stepRunsDecodedInstruction : Obligations.StepRunsDecodedInstruction := by
  intro s bytes i hr hc hold hd _
  have hbytes : bytes = encode i := by simpa using decodedBytesAreTheEncoding bytes [] i hd
  subst hbytes
  rw [step_dispatch hr hc, fetchInstr_state, fetchInstr_of_holdsAt hold]

/-- Settles O9: on a dispatch, by the table entry of the opcode the port answers at PC. -/
theorem stepIsTheSpecPulse : Obligations.StepIsTheSpecPulse := by
  intro s
  unfold step pulse
  split_ifs
  · rfl
  · simp only [fetchOpcode_byte]
    split
    · exact exec_fetchInstr_unwired ‹_›
    · exact exec_fetchInstr_run ‹_›
  · rfl

/-- Settles O13: the port answers the declared byte at PC. -/
theorem unwiredOpcodePulse : Obligations.UnwiredOpcodePulse := by
  intro s opcode hr hc hmem hop
  have hport : s.portAnswer s.pc = opcode := portAnswer_of_ram hmem
  obtain ⟨hnot, -⟩ | ⟨-, h⟩ := step_boundary hr hc
  · exact absurd (hport ▸ hop) hnot
  · rw [h, refuseUnwired_fetchOpcode, ← hport]
    rfl

/-- Settles O14: by the three kinds of pulse; a dispatch is `step_boundary`. -/
theorem pulseCompletesUnlessUnwired : Obligations.PulseCompletesUnlessUnwired := by
  intro s
  cases hr : s.refused
  · by_cases hc : s.cycles = 0#8
    · obtain ⟨hm, ht⟩ | ⟨hm, h⟩ := step_boundary hr hc
      · simp [hm, ht]
      · simp [hc, hm, h, refuseUnwired]
    · simp [hc, step_idle hr hc]
  · simp [step_refused hr]

/-- Settles O21: the dispatch leaves the cost and the extra cycle less one, and then come idle pulses alone. -/
theorem instructionOccupiesItsPulses : Obligations.InstructionOccupiesItsPulses := by
  intro s t hc h
  obtain ⟨-, ⟨hne, -⟩ | ⟨-, mnemonic, op, o, base, ht, he⟩⟩ := step_next_run h
  · exact absurd hc hne
  · obtain ⟨e, hrem, hle, hone⟩ := runEntry_remaining he
    refine ⟨⟨mnemonic, op, operandMode o, base, e, ht, hrem, hle, hone⟩, fun k hk => ?_⟩
    exact (run_succ_of_next (M := core) h k).trans (run_idle (refused_of_step_next h) k hk)

/-- Settles O22: such a refusal is the one right after the opcode fetch, and a marked state has no pulse. -/
theorem refusalEndsTheRun : Obligations.RefusalEndsTheRun := by
  intro s left op addr h
  obtain ⟨hr, hc, rfl, hm, rfl, rfl⟩ := step_unwiredOpcode h
  refine ⟨hr, hc, rfl, hm, rfl, rfl, rfl, rfl, rfl, rfl, rfl, rfl, rfl, rfl, rfl, rfl, rfl, fun t ht => ?_, fun n t ht => ?_⟩
  · rw [step_refused rfl] at ht
    cases ht
  · have hrun : afterPulses (n + 1) s = .refused _ := run_succ_of_refused (M := core) h n
    rw [hrun] at ht
    cases ht

/-- Settles O54: construction is its two range checks, and a cost in range is the number it was made of. -/
theorem configurationCheckedAtConstruction : Obligations.ConfigurationCheckedAtConstruction := by
  intro base fill order
  rw [← firstOutOfRange_eq_none, ← firstOutOfRange_eq_none]
  refine ⟨⟨fun ⟨_, h⟩ => inRange_of_build h, fun ⟨hb, hf⟩ => ?_⟩, fun cfg h => ?_⟩
  · obtain ⟨cfg, h, -⟩ := exists_build order hb hf
    exact ⟨cfg, h⟩
  · obtain ⟨hb, hf⟩ := inRange_of_build h
    obtain ⟨_, h', horder, hwired, hillegal⟩ := exists_build order hb hf
    rw [h] at h'
    cases h'
    rw [firstOutOfRange_eq_none] at hb hf
    refine ⟨horder, fun op hop => ?_, fun op hop => ⟨_, hillegal op hop, value_costOfNat (hf op hop)⟩⟩
    obtain ⟨mnemonic, o, mode, ht⟩ := exists_run_of_entryCost (hwired op hop)
    exact ⟨mnemonic, o, mode, _, ht, value_costOfNat (hb op hop)⟩

/-- Settles O10: the pulse is `tick`. -/
theorem idlePulseOnlyDecrements : Obligations.IdlePulseOnlyDecrements := by
  intro s hr hpos
  have hc : s.cycles ≠ 0#8 := by
    intro h0
    simp [h0] at hpos
  refine ⟨s.tick, step_idle hr hc, ?_, rfl⟩
  rw [tick_cycles]
  bv_omega

/-- Settles O11: the mark is the first thing a pulse looks at. -/
theorem refusedStateHasNoPulse : Obligations.RefusedStateHasNoPulse :=
  fun _ h => step_refused h

/-- Settles O35: both operations have the default costs of R153, and every fill cost is 2. -/
theorem defaultCosts : Obligations.DefaultCosts := by
  refine ⟨?_, fun opcode _ => ?_, rfl, rfl⟩
  · rintro costs (rfl | rfl) <;> decide
  · rw [fillCost_defaultConfig, value_costOfNat (by decide)]

end Sys2Proof.Proofs
end

section
/-! The statements about ADC and SBC of 42_arithmetic.md. The adder is read as a number and as signed values, and its lookahead
form bit by bit against the library's carry (`carryBit_eq_carry`). Both operations write an adder's results (`Performs`), so that a
completed entry is described once for both (`Performs.completes`); a memory mode is described by the address, the pointer reads and
the extra cycle its resolver gives (`ResolvesTo`), and a memory form is the two put together (`Performs.memory`). -/

namespace Sys2Proof.Machine

open Claims

/-! ### The adder -/

/-- The result and 256 times the carry out are the exact sum (R180). -/
theorem add8_exact (a b : Byte) (cin : Bool) :
    (add8 a b cin).1.toNat + 256 * (add8 a b cin).2.1.toNat = a.toNat + b.toNat + cin.toNat := by
  have ha := a.isLt
  have hb := b.isLt
  have hcin := Bool.toNat_le cin
  rw [add8_result, add8_carry]
  by_cases h : 255 < a.toNat + b.toNat + cin.toNat
  · rw [decide_eq_true h, Bool.toNat_true]
    omega
  · rw [decide_eq_false h, Bool.toNat_false]
    omega

/-- The adder's result as the library's addition of two words and a carry. -/
theorem add8_result_eq (a b : Byte) (cin : Bool) :
    (add8 a b cin).1 = a + b + BitVec.setWidth 8 (BitVec.ofBool cin) := by
  apply BitVec.eq_of_toNat_eq
  rw [add8_result]
  cases cin <;> simp

/-- The overflow output is signed overflow of the sum with its carry in (R182, R210). -/
theorem add8_overflow_iff_signed (a b : Byte) (cin : Bool) :
    (add8 a b cin).2.2 = true ↔
      ¬ (-128 ≤ signed a + signed b + cin.toNat ∧ signed a + signed b + cin.toNat ≤ 127) := by
  have ha := a.isLt
  have hb := b.isLt
  have hcin := Bool.toNat_le cin
  rw [add8_overflow]
  simp only [BitVec.msb_eq_decide, add8_result, signed, ne_eq, decide_eq_decide]
  split <;> split <;> omega

/-- The complement SBC adds, as a number (R186). -/
theorem toNat_complement (m : Byte) : (m ^^^ 0xFF#8).toNat = 255 - m.toNat := by
  rw [show m ^^^ 0xFF#8 = ~~~m from BitVec.xor_allOnes, BitVec.toNat_not]

/-- The complement has the other sign. -/
theorem msb_complement (m : Byte) : (m ^^^ 0xFF#8).msb = !m.msb := by
  rw [show m ^^^ 0xFF#8 = ~~~m from BitVec.xor_allOnes, BitVec.msb_not]
  rfl

/-- The complement is the signed negation, less one. -/
theorem signed_complement (m : Byte) : signed (m ^^^ 0xFF#8) = -1 - signed m := by
  have hm := m.isLt
  simp only [signed, toNat_complement]
  split <;> split <;> omega

/-! ### The carry-lookahead form -/

theorem carryBit_succ (a b : Byte) (cin : Bool) (i : Nat) :
    carryBit a b cin (i + 1) = (genBit a b i || (propBit a b i && carryBit a b cin i)) := rfl

/-- The lookahead recurrence computes the carry into each bit (R181). -/
theorem carryBit_eq_carry (a b : Byte) (cin : Bool) (i : Nat) : carryBit a b cin i = BitVec.carry i a b cin := by
  induction i with
  | zero => exact BitVec.carry_zero.symm
  | succ i ih =>
    rw [carryBit_succ, ih, BitVec.carry_succ, genBit, propBit]
    cases a.getLsbD i <;> cases b.getLsbD i <;> simp

/-- A lookahead group gives the carry four bits on, without the carries between (R181). -/
theorem carryBit_add_four (a b : Byte) (cin : Bool) (k : Nat) :
    carryBit a b cin (k + 4) = (groupGen a b k || (groupProp a b k && carryBit a b cin k)) := by
  simp only [carryBit_succ, groupGen, groupProp, Bool.and_or_distrib_left, Bool.or_assoc, Bool.and_assoc]

theorem carryBit_four (a b : Byte) (cin : Bool) : carryBit a b cin 4 = carry4 a b cin :=
  carryBit_add_four a b cin 0

theorem carryBit_eight (a b : Byte) (cin : Bool) : carryBit a b cin 8 = carry8 a b cin := by
  rw [carryBit_add_four a b cin 4, carryBit_four, carry8]

/-- The carry into bit 8 is the adder's carry out. -/
theorem add8_carry_eq_carry8 (a b : Byte) (cin : Bool) : (add8 a b cin).2.1 = carry8 a b cin := by
  have ha := a.isLt
  have hb := b.isLt
  rw [← carryBit_eight, carryBit_eq_carry, BitVec.carry, add8_carry, decide_eq_decide]
  omega

/-- Each bit of the result is propagate and carry in, added without carry (R181). -/
theorem add8_result_bit (a b : Byte) (cin : Bool) {i : Nat} (hi : i < 8) :
    (add8 a b cin).1.getLsbD i = (propBit a b i ^^ carryBit a b cin i) := by
  rw [add8_result_eq, BitVec.getLsbD_add_add_bool hi, carryBit_eq_carry, propBit, Bool.xor_assoc]

/-- The overflow output is the carry into the sign bit against the carry out of it (R182). -/
theorem add8_overflow_eq_xor (a b : Byte) (cin : Bool) :
    (add8 a b cin).2.2 = (carry8 a b cin ^^ carryBit a b cin 7) := by
  show overflow a b (add8 a b cin).1 = _
  rw [← carryBit_eight, overflow]
  simp only [BitVec.getLsbD_and, BitVec.getLsbD_xor, BitVec.getLsbD_not, add8_result_bit, Nat.lt_add_one]
  simp only [carryBit_succ a b cin 7, genBit, propBit]
  cases a.getLsbD 7 <;> cases b.getLsbD 7 <;> cases carryBit a b cin 7 <;> rfl

/-- A byte is the sum of its bits by their weights. -/
theorem sum_bits_eq_toNat (r : Byte) :
    (r.getLsbD 0).toNat * 2 ^ 0 + (r.getLsbD 1).toNat * 2 ^ 1 + (r.getLsbD 2).toNat * 2 ^ 2 + (r.getLsbD 3).toNat * 2 ^ 3 +
      (r.getLsbD 4).toNat * 2 ^ 4 + (r.getLsbD 5).toNat * 2 ^ 5 + (r.getLsbD 6).toNat * 2 ^ 6 +
      (r.getLsbD 7).toNat * 2 ^ 7 = r.toNat := by
  have hr := r.isLt
  have hbit (i : Nat) : (r.getLsbD i).toNat = r.toNat / 2 ^ i % 2 := Nat.toNat_testBit _ _
  simp only [hbit]
  omega

theorem carryLookahead_result (a b : Byte) (cin : Bool) : (carryLookahead a b cin).1 = (add8 a b cin).1 := by
  simp only [carryLookahead, ← add8_result_bit, Nat.reduceLT]
  rw [sum_bits_eq_toNat, BitVec.ofNat_toNat, BitVec.setWidth_eq]

theorem carryLookahead_eq_add8 (a b : Byte) (cin : Bool) : carryLookahead a b cin = add8 a b cin :=
  Prod.ext (carryLookahead_result a b cin)
    (Prod.ext (add8_carry_eq_carry8 a b cin).symm (add8_overflow_eq_xor a b cin).symm)

/-! ### What an entry that writes an adder's results leaves -/

/-- `v` holds the operand byte `m` in its fetch cache, and has A and the flags but U, the adder's inputs among them, as in `s`. -/
structure HoldsOperand (s : State) (m : Byte) (v : State) : Prop where
  a : v.a = s.a
  flag : ∀ f, f ≠ .U → v.flag f = s.flag f
  cached : v.fetched = m ∧ v.fetchValid = true

/-- The results of an adder in A and the flags of `t`, with all an arithmetic entry leaves of `s` beside them (R185). -/
structure WroteSum (s : State) (m : Byte) (sum : Byte × Bool × Bool) (t : State) : Prop where
  accumulator : t.a = sum.1
  carryOut : t.flag .C = sum.2.1
  overflowOut : t.flag .V = sum.2.2
  zero : t.flag .Z = true ↔ t.a.toNat = 0
  negative : t.flag .N = t.a.msb
  keepsI : t.flag .I = s.flag .I
  keepsD : t.flag .D = s.flag .D
  keepsB : t.flag .B = s.flag .B
  unused : t.flag .U = true
  cached : t.fetched = m ∧ t.fetchValid = true

theorem wroteSum_endEntry {s v : State} {m : Byte} (h : HoldsOperand s m v) (sum : Byte × Bool × Bool) (sigA sigB : Bool) :
    WroteSum s m sum ((v.writeSum sum).endEntry sigA sigB) where
  accumulator := rfl
  carryOut := by simp
  overflowOut := by simp
  zero := by simp [← BitVec.toNat_inj]
  negative := by simp [BitVec.msb_eq_getLsbD_last]
  keepsI := by simp [h.flag]
  keepsD := by simp [h.flag]
  keepsB := by simp [h.flag]
  unused := by simp
  cached := h.cached

theorem WroteSum.adcEffect {s t : State} {m : Byte} (h : WroteSum s m (add8 s.a m (s.flag .C)) t) : AdcEffect s m t :=
  { h with
    result := by rw [h.accumulator, add8_result, carryIn]
    carry := by rw [h.carryOut, add8_carry, decide_eq_true_iff, carryIn]
    overflow := by rw [h.overflowOut, add8_overflow, h.accumulator] }

theorem WroteSum.sbcEffect {s t : State} {m : Byte} (h : WroteSum s m (add8 s.a (m ^^^ 0xFF#8) (s.flag .C)) t) :
    SbcEffect s m t :=
  { h with
    result := by rw [h.accumulator, add8_result, toNat_complement, carryIn]
    carry := by rw [h.carryOut, add8_carry, decide_eq_true_iff, toNat_complement, carryIn]
    overflow := by rw [h.overflowOut, add8_overflow, h.accumulator, msb_complement, ne_eq, Bool.eq_not] }

/-! ### An arithmetic entry, for ADC and SBC at once -/

/-- An operation is arithmetic with an effect: on its operand byte it writes an adder's results that have the effect, and asks for
the extra cycle (R184, R186, R188). -/
def Performs (op : Operation) (Effect : State → Byte → State → Prop) : Prop :=
  ∀ (s : State) (m : Byte), ∃ sum, (∀ t, WroteSum s m sum t → Effect s m t) ∧
    ∀ {mode u v}, fetchOperand mode u = .ok (m, v) → HoldsOperand s m v → operate op mode u = .ok (true, v.writeSum sum)

theorem performs_adc : Performs .adc AdcEffect := by
  refine fun s m => ⟨_, fun _ => WroteSum.adcEffect, fun hf hv => ?_⟩
  simp only [operate, opAdc, hf, State.adcWrite, hv.a, hv.flag .C (by decide)]

theorem performs_sbc : Performs .sbc SbcEffect := by
  refine fun s m => ⟨_, fun _ => WroteSum.sbcEffect, fun hf hv => ?_⟩
  simp only [operate, opSbc, hf, State.sbcWrite, hv.a, hv.flag .C (by decide)]

/-- The begin of an entry and its resolver keep the flags but U. -/
theorem flag_resolveOperand_beginEntry (o : Operand) (base : Cost) (s : State) {f : Flag} (hf : f ≠ .U) :
    (resolveOperand o (s.beginEntry base)).2.flag f = s.flag f := by
  rw [flag_congr (resolveOperand_p o _), flag_beginEntry, if_neg hf]

/-- An arithmetic entry completes once its operand byte is in the cache: with its effect, its frame, the reads made until then, and
its base cost and the extra cycle the resolver asks for, less one. -/
theorem Performs.completes {op : Operation} {Effect : State → Byte → State → Prop} (h : Performs op Effect) {o : Operand}
    {base : Cost} {s v : State} {m : Byte} {events : List ReadEvent}
    (hf : fetchOperand (operandMode o) (resolveOperand o (s.beginEntry base)).2 = .ok (m, v)) (hv : HoldsOperand s m v)
    (hreads : Reads s v events) (hc : v.cycles = base.value) :
    ∃ t, runEntry op o base s = .next t ∧ Effect s m t ∧ Frame s t ∧ Reads s t events ∧
      Remaining t base (resolveOperand o (s.beginEntry base)).1.toNat := by
  obtain ⟨sum, heffect, hop⟩ := h s m
  have he : runEntry op o base s =
      .next ((v.writeSum sum).endEntry (resolveOperand o (s.beginEntry base)).1 true) := by
    rw [runEntry, finishEntry, hop hf hv]
  have hrem := remaining_endEntry (s := v.writeSum sum) hc (resolveOperand o (s.beginEntry base)).1 true
  rw [Bool.and_true] at hrem
  exact ⟨_, he, heffect _ (wroteSum_endEntry hv sum _ _), runEntry_frame he, hreads, hrem⟩

/-- An immediate form completes whatever the fetch cache holds, on its operand byte and with no read (R190, R200). -/
theorem Performs.immediate {op : Operation} {Effect : State → Byte → State → Prop} (h : Performs op Effect) (imm8 : Byte)
    (base : Cost) (s : State) :
    ∃ t, runEntry op (.imm imm8) base s = .next t ∧ Effect s imm8 t ∧ Frame s t ∧ Reads s t [] ∧ Remaining t base 0 :=
  h.completes (fetchOperand_imm _) ⟨rfl, fun _ => flag_resolveOperand_beginEntry (.imm imm8) base s, rfl, rfl⟩ ⟨rfl, rfl⟩ rfl

/-! ### What the resolver of a memory mode gives -/

/-- The operand is of a mode that reads memory, and its resolver from `s` puts the address in absAddr, after the reads of the pointer,
and asks for the extra cycle or not. -/
structure ResolvesTo (o : Operand) (s : State) (addr : Addr) (pointer : List ReadEvent) (extra : Nat) : Prop where
  notImmediate : operandMode o ≠ .imm
  notRelative : operandMode o ≠ .rel
  address : (resolveOperand o s).2.absAddr = addr
  reads : Reads s (resolveOperand o s).2 pointer
  signal : (resolveOperand o s).1.toNat = extra

/-- A resolver that reads its pointer, if it has one, and then writes absAddr. -/
theorem resolvesTo_of_eq {o : Operand} {s u : State} {addr : Addr} {pointer : List ReadEvent} {sig : Bool}
    (hi : operandMode o ≠ .imm) (hr : operandMode o ≠ .rel) (hreads : Reads s u pointer)
    (h : resolveOperand o s = u.resolved addr sig) : ResolvesTo o s addr pointer sig.toNat where
  notImmediate := hi
  notRelative := hr
  address := by rw [h, resolved_absAddr]
  reads := by rw [h]; exact hreads
  signal := by rw [h, resolved_signal]

theorem resolvesTo_zp0 (zp8 : Byte) (s : State) : ResolvesTo (.zp0 zp8) s (zpAddr zp8.toNat) [] 0 := by
  refine resolvesTo_of_eq (sig := false) nofun nofun ⟨rfl, rfl⟩ ?_
  rw [← zext16_eq_zpAddr (Nat.mod_eq_of_lt zp8.isLt).symm]
  rfl

theorem resolvesTo_zpx (zp8 : Byte) (s : State) : ResolvesTo (.zpx zp8) s (zpAddr (zp8.toNat + s.x.toNat)) [] 0 := by
  refine resolvesTo_of_eq (sig := false) nofun nofun ⟨rfl, rfl⟩ ?_
  rw [← zext16_eq_zpAddr (BitVec.toNat_add zp8 s.x)]
  rfl

theorem resolvesTo_abs (lo hi : Byte) (s : State) : ResolvesTo (.abs lo hi) s (word lo hi) [] 0 := by
  refine resolvesTo_of_eq (sig := false) nofun nofun ⟨rfl, rfl⟩ ?_
  rw [← mkAddr_eq_word]
  rfl

/-- The extra cycle of an indexed address, as a number (R123). -/
theorem toNat_crossing (base addr : Addr) : (decide (crossing base addr = 1)).toNat = crossing base addr := by
  unfold crossing
  split <;> rfl

/-- An absolute indexed mode, whichever index it adds (R118, R119). -/
theorem resolvesTo_absIndexed {o : Operand} {s : State} {lo hi index : Byte} (himm : operandMode o ≠ .imm)
    (hrel : operandMode o ≠ .rel) (h : resolveOperand o s = resolveIndexed (mkAddr lo hi) index s) :
    ResolvesTo o s (indexed (word lo hi) index) [] (crossing (word lo hi) (indexed (word lo hi) index)) := by
  rw [← toNat_crossing]
  refine resolvesTo_of_eq himm hrel ⟨rfl, rfl⟩ ?_
  rw [h, mkAddr_eq_word, resolveIndexed_eq, State.resolved]

theorem resolvesTo_abx (lo hi : Byte) (s : State) :
    ResolvesTo (.abx lo hi) s (indexed (word lo hi) s.x) [] (crossing (word lo hi) (indexed (word lo hi) s.x)) :=
  resolvesTo_absIndexed nofun nofun rfl

theorem resolvesTo_aby (lo hi : Byte) (s : State) :
    ResolvesTo (.aby lo hi) s (indexed (word lo hi) s.y) [] (crossing (word lo hi) (indexed (word lo hi) s.y)) :=
  resolvesTo_absIndexed nofun nofun rfl

/-- The reads of a pointer pair, in the configured order. -/
theorem reads_afterPair (s : State) (aLo : Addr) (lo : Byte) (aHi : Addr) (hi : Byte) :
    Reads s (s.afterPair aLo lo aHi hi) (pairReads s aLo lo aHi hi) := by
  refine ⟨rfl, ?_⟩
  unfold pairReads
  split <;> rfl

theorem exists_resolvesTo_izx (zp8 : Byte) (s : State) :
    ∃ lo hi, RamLaw s (zpAddr (zp8.toNat + s.x.toNat)) lo ∧ RamLaw s (zpAddr (zp8.toNat + s.x.toNat + 1)) hi ∧
      ResolvesTo (.izx zp8) s (word lo hi)
        (pairReads s (zpAddr (zp8.toNat + s.x.toNat)) lo (zpAddr (zp8.toNat + s.x.toNat + 1)) hi) 0 := by
  obtain ⟨lo, hi, hlo, hhi, hp⟩ := exists_zeroPagePair s (BitVec.toNat_add zp8 s.x)
  refine ⟨lo, hi, hlo, hhi, resolvesTo_of_eq (sig := false) nofun nofun (reads_afterPair s _ lo _ hi) ?_⟩
  rw [resolveOperand, resolveIzx, hp, mkAddr_eq_word]

theorem exists_resolvesTo_izy (zp8 : Byte) (s : State) :
    ∃ lo hi, RamLaw s (zpAddr zp8.toNat) lo ∧ RamLaw s (zpAddr (zp8.toNat + 1)) hi ∧
      ResolvesTo (.izy zp8) s (indexed (word lo hi) s.y) (pairReads s (zpAddr zp8.toNat) lo (zpAddr (zp8.toNat + 1)) hi)
        (crossing (word lo hi) (indexed (word lo hi) s.y)) := by
  obtain ⟨lo, hi, hlo, hhi, hp⟩ := exists_zeroPagePair s (Nat.mod_eq_of_lt zp8.isLt).symm
  refine ⟨lo, hi, hlo, hhi, ?_⟩
  rw [← toNat_crossing]
  refine resolvesTo_of_eq nofun nofun (reads_afterPair s _ lo _ hi) ?_
  rw [resolveOperand, resolveIzy, hp, mkAddr_eq_word, resolveIndexed_eq]
  rfl

/-! ### A memory form -/

/-- The one data read comes after the reads made until then. -/
theorem reads_materialize {s u : State} {events : List ReadEvent} (h : Reads s u events) :
    Reads s u.materialize.2 (events ++ [⟨u.absAddr, u.materialize.1⟩]) := by
  obtain ⟨hhist, hcount⟩ := h
  exact ⟨by simp [hhist], by simp [hcount, Nat.add_assoc]⟩

/-- Materialization after a resolver leaves the operand byte in the cache and the adder's inputs as they were. -/
theorem holdsOperand_materialize (o : Operand) (base : Cost) (s : State) :
    HoldsOperand s (resolveOperand o (s.beginEntry base)).2.materialize.1
      (resolveOperand o (s.beginEntry base)).2.materialize.2 where
  a := resolveOperand_a o _
  flag _ hf := flag_resolveOperand_beginEntry o base s hf
  cached := ⟨rfl, rfl⟩

section
variable {op : Operation} {Effect : State → Byte → State → Prop} (h : Performs op Effect) {o : Operand} {s : State} {base : Cost}
include h

/-- A memory form completes on the byte the port answers at the resolved address, which it reads after its pointer (R130). -/
theorem Performs.memory {addr : Addr} {pointer : List ReadEvent} {extra : Nat} (hv : s.fetchValid = false)
    (hr : ResolvesTo o (s.beginEntry base) addr pointer extra) :
    ∃ m t, runEntry op o base s = .next t ∧ RamLaw s addr m ∧ Effect s m t ∧ Frame s t ∧
      Reads s t (pointer ++ [⟨addr, m⟩]) ∧ Remaining t base extra := by
  obtain ⟨hi, hrel, rfl, hreads, rfl⟩ := hr
  have hu : (resolveOperand o (s.beginEntry base)).2.fetchValid = false :=
    (resolveOperand_fetchValid o _ hi).trans hv
  have hmem : (resolveOperand o (s.beginEntry base)).2.mem = s.mem := resolveOperand_mem o _
  obtain ⟨t, he, hrest⟩ := h.completes (fetchOperand_read hu hi hrel) (holdsOperand_materialize o base s)
    (reads_materialize hreads) (resolveOperand_cycles o _)
  exact ⟨_, t, he, (ramLaw_congr hmem).1 (portAnswer_ramLaw _ _), hrest⟩

/-- A memory form whose address is read at a pointer completes as every memory form does. -/
theorem Performs.pointer {aLo aHi : Addr} {addr : Byte → Byte → Addr} {extra : Byte → Byte → Nat} (hv : s.fetchValid = false)
    (hr : ∃ lo hi, RamLaw (s.beginEntry base) aLo lo ∧ RamLaw (s.beginEntry base) aHi hi ∧
      ResolvesTo o (s.beginEntry base) (addr lo hi) (pairReads (s.beginEntry base) aLo lo aHi hi) (extra lo hi)) :
    ∃ lo hi m t, runEntry op o base s = .next t ∧ RamLaw s aLo lo ∧ RamLaw s aHi hi ∧ RamLaw s (addr lo hi) m ∧
      Effect s m t ∧ Frame s t ∧ Reads s t (pairReads s aLo lo aHi hi ++ [⟨addr lo hi, m⟩]) ∧
      Remaining t base (extra lo hi) := by
  obtain ⟨lo, hi, hlo, hhi, hres⟩ := hr
  obtain ⟨m, t, he, hrest⟩ := h.memory hv hres
  exact ⟨lo, hi, m, t, he, hlo, hhi, hrest⟩

end

end Sys2Proof.Machine

namespace Sys2Proof.Proofs

open Machine Claims

/-- Settles O26: the immediate form of ADC. -/
theorem adcImmediateResult : Obligations.AdcImmediateResult :=
  fun s imm8 => performs_adc.immediate imm8 s.config.adc.imm s

/-- Settles O27: the two zero-page addresses, for ADC. -/
theorem adcZeroPageResult : Obligations.AdcZeroPageResult :=
  ⟨fun _ zp8 hv => performs_adc.memory hv (resolvesTo_zp0 zp8 _),
    fun _ zp8 hv => performs_adc.memory hv (resolvesTo_zpx zp8 _)⟩

/-- Settles O28: the three absolute addresses, for ADC. -/
theorem adcAbsoluteResult : Obligations.AdcAbsoluteResult :=
  ⟨fun _ lo hi hv => performs_adc.memory hv (resolvesTo_abs lo hi _),
    fun _ lo hi hv => performs_adc.memory hv (resolvesTo_abx lo hi _),
    fun _ lo hi hv => performs_adc.memory hv (resolvesTo_aby lo hi _)⟩

/-- Settles O29: the two addresses read at a pointer, for ADC. -/
theorem adcPointerResult : Obligations.AdcPointerResult :=
  ⟨fun _ zp8 hv => performs_adc.pointer hv (exists_resolvesTo_izx zp8 _),
    fun _ zp8 hv => performs_adc.pointer hv (exists_resolvesTo_izy zp8 _)⟩

/-- Settles O30: the immediate form of SBC. -/
theorem sbcImmediateResult : Obligations.SbcImmediateResult :=
  fun s imm8 => performs_sbc.immediate imm8 s.config.sbc.imm s

/-- Settles O31: the two zero-page addresses, for SBC. -/
theorem sbcZeroPageResult : Obligations.SbcZeroPageResult :=
  ⟨fun _ zp8 hv => performs_sbc.memory hv (resolvesTo_zp0 zp8 _),
    fun _ zp8 hv => performs_sbc.memory hv (resolvesTo_zpx zp8 _)⟩

/-- Settles O32: the three absolute addresses, for SBC. -/
theorem sbcAbsoluteResult : Obligations.SbcAbsoluteResult :=
  ⟨fun _ lo hi hv => performs_sbc.memory hv (resolvesTo_abs lo hi _),
    fun _ lo hi hv => performs_sbc.memory hv (resolvesTo_abx lo hi _),
    fun _ lo hi hv => performs_sbc.memory hv (resolvesTo_aby lo hi _)⟩

/-- Settles O33: the two addresses read at a pointer, for SBC. -/
theorem sbcPointerResult : Obligations.SbcPointerResult :=
  ⟨fun _ zp8 hv => performs_sbc.pointer hv (exists_resolvesTo_izx zp8 _),
    fun _ zp8 hv => performs_sbc.pointer hv (exists_resolvesTo_izy zp8 _)⟩

/-- Settles O36: the complement of the operand and the carry add 256 in all. -/
theorem additiveInverse : Obligations.AdditiveInverse := by
  intro s m hc
  obtain ⟨t, ht, hadc, -⟩ := adcImmediateResult s m
  obtain ⟨u, hu, hsbc, -⟩ := sbcImmediateResult (t.setFlag .C true) m
  refine ⟨t, u, ht, hu, BitVec.eq_of_toNat_eq ?_⟩
  have ha := s.a.isLt
  have hm := m.isLt
  rw [hsbc.result, setFlag_a, hadc.result, carryIn, carryIn, hc, flag_setFlag, if_pos rfl, Bool.toNat_true, Bool.toNat_false]
  omega

/-- Settles O37: adding the complement and the carry is subtracting the operand and the borrow. -/
theorem subtractionWithBorrow : Obligations.SubtractionWithBorrow := by
  intro s m borrow t
  have ha := s.a.isLt
  have hm := m.isLt
  have hle : carryIn s ≤ 1 := Bool.toNat_le _
  have hcarry : (s.flag .C).toNat = carryIn s := rfl
  have hb : (borrow : Int) = 1 - carryIn s := by omega
  refine ⟨?_, ?_, ?_⟩
  · rw [show t.a = _ from writeSum_a _ _, add8_result, toNat_complement, hb, hcarry]
    omega
  · rw [show t.flag .C = _ from flag_writeSum _ _ _]
    simp only [add8_carry, toNat_complement, hcarry, decide_eq_true_iff]
    omega
  · rw [show t.flag .V = _ from flag_writeSum _ _ _]
    simp only [add8_overflow_iff_signed, signed_complement, hcarry, hb]
    omega

/-- Settles O38: the overflow output of the adder, put into V. -/
theorem overflowIsSignedOverflow : Obligations.OverflowIsSignedOverflow := by
  intro s m
  rw [State.adcWrite, flag_writeSum]
  exact add8_overflow_iff_signed s.a m (s.flag .C)

/-- Settles O39: the exact sum, and the overflow detector of R182 as the model writes it. -/
theorem adderIsExact : Obligations.AdderIsExact :=
  fun a b cin => ⟨add8_exact a b cin, rfl⟩

/-- Settles O40: the lookahead form agrees with the adder in result, carry out and overflow. -/
theorem carryLookaheadIsTheAdder : Obligations.CarryLookaheadIsTheAdder :=
  fun a b cin => ⟨carryLookahead_eq_add8 a b cin, carryBit_four a b cin, carryBit_eight a b cin, add8_overflow a b cin⟩

end Sys2Proof.Proofs
end

section
/-! The statements about unwired opcodes, the fill entry and the stack pointer of 43_unwired_and_fill.md. The listed instructions are
those of the two classes of opcode bytes (`map_opcodeOf_unwiredInstrs`, `map_opcodeOf_fillInstrs`), and the class of its opcode
byte alone decides what an instruction means (`exec_of_unwired`, `exec_of_illegal`). -/

namespace Sys2Proof.Machine

open Claims

/-! ### The instructions of a class of opcode bytes -/

/-- The listed unwired instructions have the unwired bytes, in byte order (R223). -/
theorem map_opcodeOf_unwiredInstrs : unwiredInstrs.map opcodeOf = unwiredOpcodes := by decide

/-- The listed fill instructions have the illegal bytes, in R87's order. -/
theorem map_opcodeOf_fillInstrs : fillInstrs.map opcodeOf = illegalOpcodes := by decide

theorem opcodeOf_mem_unwiredOpcodes {i : Instr} (h : i ∈ unwiredInstrs) : opcodeOf i ∈ unwiredOpcodes :=
  map_opcodeOf_unwiredInstrs ▸ List.mem_map_of_mem h

theorem opcodeOf_mem_illegalOpcodes {i : Instr} (h : i ∈ fillInstrs) : opcodeOf i ∈ illegalOpcodes :=
  map_opcodeOf_fillInstrs ▸ List.mem_map_of_mem h

/-! ### What an instruction of a class means -/

/-- An instruction with an unwired opcode byte is refused, whatever the state (R222). -/
theorem exec_of_unwired {i : Instr} (h : opcodeOf i ∈ unwiredOpcodes) (s : State) :
    exec i s = refuseUnwired (opcodeOf i) s := by
  obtain ⟨mnemonic, hu⟩ := (mem_unwiredOpcodes_iff_table s.config _).1 h
  obtain ⟨_, _, _, _, ht, -, -⟩ | ⟨_, -, he⟩ := exec_cases i s
  · rw [hu] at ht
    cases ht
  · exact he

theorem operandMode_eq_imp {o : Operand} : operandMode o = .imp ↔ o = .imp := by
  cases o <;> simp [operandMode]

/-- An instruction with an illegal opcode byte runs the fill entry at that byte's cost (R220). -/
theorem exec_of_illegal {i : Instr} (h : opcodeOf i ∈ illegalOpcodes) (s : State) :
    exec i s = runFill (opcodeOf i) s := by
  obtain ⟨_, op, o, base, ht, -, he⟩ | ⟨_, ht, -⟩ := exec_cases i s <;> rw [table_illegal s.config _ h, fillEntry] at ht
  · injection ht with _ hop hmode hbase
    have ho : o = .imp := operandMode_eq_imp.1 hmode.symm
    subst hop hbase ho
    exact he
  · cases ht

/-- The fill entry completes: it puts PC into `absAddr`, forces U and loads its cost, and all else is as before (R220, R221). -/
theorem runEntry_fill_completes (base : Cost) (s : State) :
    ∃ t, runEntry .fill .imp base s = .next t ∧ t.a = s.a ∧ t.fetchValid = s.fetchValid ∧
      (∀ f, f ≠ .U → t.flag f = s.flag f) ∧ t.flag .U = true ∧ t.absAddr = s.pc ∧ Frame s t ∧ Reads s t [] ∧
      Remaining t base 0 := by
  have he := runEntry_fill base s
  refine ⟨_, he, by simp [resolveImp], by simp [resolveImp], fun f hf => ?_, runEntry_unused he, by simp [resolveImp],
    runEntry_frame he, ⟨rfl, rfl⟩, remaining_endEntry rfl false false⟩
  rw [flag_endEntry, if_neg hf]
  exact flag_resolveOperand_beginEntry .imp base s hf

/-- Writing SP is a change of SP alone, to one value. -/
theorem setSP_eq_editStatus (s : State) (v : Byte) : s.setSP v = s.editStatus (fun _ => v) id := rfl

end Sys2Proof.Machine

namespace Sys2Proof.Proofs

open Machine Claims

/-- Settles O20: a pulse carries any change of SP through to its result. -/
theorem stackPointerHasNoEffect : Obligations.StackPointerHasNoEffect := by
  intro s v
  simp only [setSP_eq_editStatus]
  exact step_editStatus unseen_id s

/-- Settles O34: each listed instruction has an illegal byte, so it runs the fill entry. -/
theorem fillResult : Obligations.FillResult := by
  refine ⟨rfl, fun i hi s => ?_⟩
  have hop : opcodeOf i ∈ illegalOpcodes := opcodeOf_mem_illegalOpcodes hi
  rw [exec_of_illegal hop]
  exact ⟨hop, runEntry_fill_completes _ s⟩

/-- Settles O12: each listed instruction has an unwired byte, so it is refused. -/
theorem unwiredInstructionIsRefused : Obligations.UnwiredInstructionIsRefused := by
  refine ⟨rfl, fun i hi s => ?_⟩
  have hop : opcodeOf i ∈ unwiredOpcodes := opcodeOf_mem_unwiredOpcodes hi
  exact ⟨hop, exec_of_unwired hop s⟩

end Sys2Proof.Proofs
end

section
/-! The statement about exceptions of 60_exceptions.md. The one fault of the model needs an entry in Relative mode, and no
instruction has one (`exec_ne_fault`); a pulse that fetches no instruction answers no fault either. -/

namespace Sys2Proof.Machine

/-- No instruction faults, whatever the state: a wired entry runs in a mode other than Relative, so it completes; an unwired one is
refused (R240, R241). -/
theorem exec_ne_fault (i : Instr) (s : State) (f : Fault) : exec i s ≠ .fault f := by
  obtain ⟨_, op, o, base, -, hmode, he⟩ | ⟨_, -, he⟩ := exec_cases i s
  · obtain ⟨t, ht⟩ := runEntry_next op base s hmode
    simp [he, ht]
  · simp [he, refuseUnwired]

end Sys2Proof.Machine

namespace Sys2Proof.Proofs

open Machine

/-- Settles O15: by the three kinds of pulse; a dispatch is the meaning of the instruction fetched. -/
theorem noPulseFaults : Obligations.NoPulseFaults := by
  intro s f
  cases hr : s.refused
  · by_cases hc : s.cycles = 0#8
    · rw [step_dispatch hr hc]
      exact exec_ne_fault _ _ f
    · simp [step_idle hr hc]
  · simp [step_refused hr]

end Sys2Proof.Proofs
end

section
/-! The statements about the costs and the host of 70_reset_and_hazards.md. The costs decide the cycle counter alone: two states
that differ in the configuration and the counter (`State.recost`) are carried through a dispatch to two states that differ in these
again (`exec_recost`, `step_config`), and the idle pulses up to the next boundary bring both counters to 0 (`toBoundary_eq`). A
change the host makes touches neither the counter nor the mark, and an idle pulse looks at nothing else (`tick_apply`). -/

namespace Sys2Proof.Machine

open Claims

/-! ### A dispatch under another configuration of costs -/

/-- A state with another configuration and another cycle counter. -/
def State.recost (cfg : Config) (c : Byte) (s : State) : State := { s with config := cfg, cycles := c }

@[simp] theorem recost_fetchValid (cfg : Config) (c : Byte) (s : State) :
    (s.recost cfg c).fetchValid = s.fetchValid := rfl

section
variable {cfg : Config} (c : Byte)

/-- The port's answers depend on the number of the read, not on the costs. -/
theorem fetchInstr_recost (s : State) :
    fetchInstr (s.recost cfg c) = ((fetchInstr s).1, (fetchInstr s).2.recost cfg c) := by
  have hf : (s.recost cfg c).fetchOpcode = (s.fetchOpcode.1, s.fetchOpcode.2.recost cfg c) := rfl
  unfold fetchInstr
  simp only [hf]
  split <;> rfl

/-- The begin of an entry loads the counter, so only the two base costs differ after it. -/
theorem beginEntry_recost (s : State) (base base' : Cost) :
    (s.recost cfg c).beginEntry base' = (s.beginEntry base).recost cfg base'.value := rfl

theorem fetchOperand_recost (mode : Mode) (s : State) :
    fetchOperand mode (s.recost cfg c) = (fetchOperand mode s).map fun r => (r.1, r.2.recost cfg c) := by
  unfold fetchOperand
  rw [recost_fetchValid]
  split_ifs <;> rfl

theorem operate_recost (op : Operation) (mode : Mode) (s : State) :
    operate op mode (s.recost cfg c) = (operate op mode s).map fun q => (q.1, q.2.recost cfg c) := by
  cases op with
  | fill => rfl
  | adc =>
    simp only [operate, opAdc, fetchOperand_recost]
    cases fetchOperand mode s <;> rfl
  | sbc =>
    simp only [operate, opSbc, fetchOperand_recost]
    cases fetchOperand mode s <;> rfl

variable {s : State} (horder : cfg.ptrReadOrder = s.config.ptrReadOrder)
include horder

theorem read16pair_recost (aLo aHi : Addr) :
    (s.recost cfg c).read16pair aLo aHi = ((s.read16pair aLo aHi).1, (s.read16pair aLo aHi).2.recost cfg c) := by
  cases hp : s.config.ptrReadOrder
  · rw [read16pair_loFirst hp, read16pair_loFirst (s := s.recost cfg c) (horder.trans hp)]; rfl
  · rw [read16pair_hiFirst hp, read16pair_hiFirst (s := s.recost cfg c) (horder.trans hp)]; rfl

/-- A resolver asks the configuration for the pointer read order alone (R124). -/
theorem resolveOperand_recost (o : Operand) :
    resolveOperand o (s.recost cfg c) = ((resolveOperand o s).1, (resolveOperand o s).2.recost cfg c) := by
  cases o with
  | ind lo hi => simp only [resolveOperand, resolveInd, read16pair_recost c horder]; rfl
  | izx zp8 => simp only [resolveOperand, resolveIzx, State.zeroPagePair, read16pair_recost c horder]; rfl
  | izy zp8 => simp only [resolveOperand, resolveIzy, State.zeroPagePair, read16pair_recost c horder]; rfl
  | _ => rfl

/-- An entry that completes at one cost completes at any other, with all but the counter the same. -/
theorem runEntry_recost {op : Operation} {o : Operand} {base : Cost} {t : State} (h : runEntry op o base s = .next t)
    (base' : Cost) : ∃ c', runEntry op o base' (s.recost cfg c) = .next (t.recost cfg c') := by
  unfold runEntry finishEntry at h ⊢
  rw [beginEntry_recost c s base base', resolveOperand_recost base'.value (s := s.beginEntry base) horder, operate_recost]
  split at h <;> cases h
  rename_i q hq
  rw [hq]
  exact ⟨_, rfl⟩

/-- An instruction completes under both configurations, with all but the counter the same, or is refused under both. -/
theorem exec_recost (i : Instr) :
    (∃ t c', exec i s = .next t ∧ exec i (s.recost cfg c) = .next (t.recost cfg c')) ∨
    (exec i s = refuseUnwired (opcodeOf i) s ∧ exec i (s.recost cfg c) = refuseUnwired (opcodeOf i) (s.recost cfg c)) := by
  rcases exec_form i with ⟨_, op, o, cost, hm, -, he⟩ | ⟨_, -, he⟩
  · obtain ⟨t, ht⟩ := runEntry_next op (cost s.config) s hm
    obtain ⟨c', ht'⟩ := runEntry_recost c horder ht (cost cfg)
    exact .inl ⟨t, c', (he s).trans ht, (he _).trans ht'⟩
  · exact .inr ⟨he s, he _⟩

end

/-- A dispatch completes under both configurations, with all but the counter the same, or is refused under both, with all but the
configuration the same in the state left. -/
theorem step_config {s : State} {cfg : Config} (hr : s.refused = false) (hc : s.cycles = 0#8)
    (horder : cfg.ptrReadOrder = s.config.ptrReadOrder) :
    (∃ t c, step s = .next t ∧ step { s with config := cfg } = .next (t.recost cfg c)) ∨
    ∃ op addr left, step s = .refused (.unwiredOpcode op addr left) ∧
      step { s with config := cfg } = .refused (.unwiredOpcode op addr { left with config := cfg }) := by
  have hs : { s with config := cfg } = s.recost cfg (fetchInstr s).2.cycles := by
    rw [fetchInstr_cycles]; rfl
  have hfetch : cfg.ptrReadOrder = (fetchInstr s).2.config.ptrReadOrder := by rw [fetchInstr_config, horder]
  rw [step_dispatch hr hc, step_dispatch (s := { s with config := cfg }) hr hc, hs, fetchInstr_recost]
  obtain h | ⟨h, h'⟩ := exec_recost (fetchInstr s).2.cycles hfetch (fetchInstr s).1
  · exact .inl h
  · exact .inr ⟨_, _, _, h, h'⟩

/-! ### From one instruction boundary to the next -/

/-- An unrefused state comes to its boundary by counting down alone (R161, R164). -/
theorem toBoundary_eq {s : State} (h : s.refused = false) : toBoundary s = .next { s with cycles := 0#8 } := by
  rw [toBoundary, run_idle h s.cycles.toNat le_rfl, Nat.sub_self]
  rfl

/-- After an instruction that completes, the run goes on from its boundary. -/
theorem afterInstructions_succ_of_next {s t : State} (h : step s = .next t) (k : Nat) :
    afterInstructions (k + 1) s = afterInstructions k { t with cycles := 0#8 } := by
  simp only [afterInstructions, h, toBoundary_eq (refused_of_step_next h)]

/-- A refused pulse ends the run. -/
theorem afterInstructions_succ_of_refused {s : State} {r : Refusal} (h : step s = .refused r) (k : Nat) :
    afterInstructions (k + 1) s = .refused r := by
  simp only [afterInstructions, h]

/-! ### Changes the host makes between pulses -/

/-- The whole of P written puts the written byte in P and changes nothing else (R40, D20). -/
theorem setP_eq (s : State) (v : Byte) : s.setP v = { s with p := v } := by
  rw [setP_onlyP, setP_p]

/-- No change of the host sets or clears the mark. -/
@[simp] theorem apply_refused (c : HostChange) (s : State) : (c.apply s).refused = s.refused := by
  cases c with
  | status v => exact setP_refused s v
  | _ => rfl

/-- No change of the host touches the cycle counter. -/
@[simp] theorem apply_cycles (c : HostChange) (s : State) : (c.apply s).cycles = s.cycles := by
  cases c with
  | status v => exact setP_cycles s v
  | _ => rfl

/-- The decrement of the counter and a change of the host commute. -/
theorem tick_apply (c : HostChange) (s : State) : (c.apply s).tick = c.apply s.tick := by
  cases c with
  | status v => simp only [HostChange.apply, setP_eq]; rfl
  | _ => rfl

end Sys2Proof.Machine

namespace Sys2Proof.Proofs

open Machine Claims

/-- Settles O23, by induction on the number of instructions: each is dispatched alike under both configurations, and the idle
pulses after it leave no difference in the counter. -/
theorem costsDecideNoData : Obligations.CostsDecideNoData := by
  intro k
  induction k with
  | zero => exact fun _ _ _ _ => rfl
  | succ k ih =>
    intro s cfg hc horder
    obtain hr | hr := Bool.eq_false_or_eq_true s.refused
    · rw [afterInstructions_succ_of_refused (step_refused hr),
        afterInstructions_succ_of_refused (step_refused (s := { s with config := cfg }) hr)]
      rfl
    · obtain ⟨t, c, h, h'⟩ | ⟨op, addr, left, h, h'⟩ := step_config hr hc horder
      · obtain ⟨-, -, -, -, -, -, -, -, hcfg⟩ := noPulseTouchesHostState s t h
        rw [afterInstructions_succ_of_next h, afterInstructions_succ_of_next h']
        exact ih { t with cycles := 0#8 } cfg rfl (by rw [horder, hcfg])
      · rw [afterInstructions_succ_of_refused h, afterInstructions_succ_of_refused h']
        rfl

/-- Settles O51: an idle pulse is `tick`, with which every change commutes; at a boundary the opcode is the port's answer at PC. -/
theorem hostChangesDuringIdlePulses : Obligations.HostChangesDuringIdlePulses := by
  intro s hr
  refine ⟨fun hc c => ?_, fun _ b addr => ⟨portAnswer_place s s.pc b, fun hram => ?_, ?_⟩⟩
  · rw [step_idle hr hc, step_idle (by rw [apply_refused, hr]) (by rwa [apply_cycles]), tick_apply]
    rfl
  · obtain ⟨v, hv⟩ := Option.ne_none_iff_exists'.1 hram
    exact portAnswer_memWrite hv b
  · exact ⟨s.portAnswer addr, portAnswer_ramLaw s addr, rfl, rfl⟩

end Sys2Proof.Proofs
end
